-- ==== Sys2Proof/Word.lean ====
section
/-! DEFINITION. The word types: the 16-bit operation word (30_encoding.md R80) and the 64-bit time value (R88). -/

namespace Sys2Proof

/-- An operation word, 16 bits, bit 0 the least significant (00_scope.md R10, 30_encoding.md R80). -/
abbrev Word := BitVec 16

/-- A time value or mark: an unsigned 64-bit integer of whole microseconds or milliseconds (30_encoding.md R88). -/
abbrev Time := BitVec 64

end Sys2Proof
end

