-- ==== Sys2Proof/Syntax.lean ====
section
/-! DEFINITION. The 19 operations of 30_encoding.md R84, their agents, and what stands in a script or at the block's inputs. -/

namespace Sys2Proof

/-- The operation set (30_encoding.md R84), one constructor per row of spec/opcode_table.json.
An operand `raw` is the unsigned reading 0 to 1023 of R82, `lvl` the sampled level, true for high. -/
inductive Instr where
  | tbCount
  | tbOvf
  | tbRdus
  | tbRdms
  | tbIrqoff
  | tbIrqon
  | btSample (raw : Nat)
  | ckSec
  | ckMode
  | ckInc
  | ckDec
  | ckSecchk
  | rgTrig
  | rgTrigw
  | rgWaith (lvl : Bool)
  | rgWaitl (lvl : Bool)
  | rgRecov
  | arSel (lvl : Bool)
  | sysReset
  deriving DecidableEq, Repr, Inhabited

/-- The four agents that take steps (00_scope.md R6). -/
inductive Agent where
  | tmr
  | irq
  | main
  | host
  deriving DecidableEq, Repr

/-- Which agents may perform an operation (the agent column of 30_encoding.md R84). -/
def Instr.agents : Instr → List Agent
  | .tbCount => [.tmr]
  | .tbOvf => [.irq]
  | .tbRdus => [.main, .host]
  | .tbRdms => [.main, .host]
  | .tbIrqoff => [.host]
  | .tbIrqon => [.host]
  | .btSample _ => [.main]
  | .ckSec => [.main]
  | .ckMode => [.main]
  | .ckInc => [.main]
  | .ckDec => [.main]
  | .ckSecchk => [.main]
  | .rgTrig => [.main]
  | .rgTrigw => [.main]
  | .rgWaith _ => [.main]
  | .rgWaitl _ => [.main]
  | .rgRecov => [.main]
  | .arSel _ => [.main]
  | .sysReset => [.host]

/-- The mnemonic of an operation, as 30_encoding.md R84 spells it. -/
def Instr.mnemonic : Instr → String
  | .tbCount => "TB_COUNT"
  | .tbOvf => "TB_OVF"
  | .tbRdus => "TB_RDUS"
  | .tbRdms => "TB_RDMS"
  | .tbIrqoff => "TB_IRQOFF"
  | .tbIrqon => "TB_IRQON"
  | .btSample _ => "BT_SAMPLE"
  | .ckSec => "CK_SEC"
  | .ckMode => "CK_MODE"
  | .ckInc => "CK_INC"
  | .ckDec => "CK_DEC"
  | .ckSecchk => "CK_SECCHK"
  | .rgTrig => "RG_TRIG"
  | .rgTrigw => "RG_TRIGW"
  | .rgWaith _ => "RG_WAITH"
  | .rgWaitl _ => "RG_WAITL"
  | .rgRecov => "RG_RECOV"
  | .arSel _ => "AR_SEL"
  | .sysReset => "SYS_RESET"

/-- The levels of the three sampled input ports at one step (10_state.md R42, R43, R44). -/
structure Inputs where
  rev    : Bool
  adcRaw : BitVec 10
  echo   : Bool
  deriving DecidableEq, Repr, Inhabited

/-- The control ports at one clock edge (10_state.md R41). -/
structure Pins where
  rst   : Bool
  ieClr : Bool
  ieSet : Bool
  deriving DecidableEq, Repr, Inhabited

/-- One line of a script (30_encoding.md R91): an operation word; the sequencer step MAIN with the port levels it may
sample (44_arbiter_sequencer.md R184); a clock edge at which HOST drives its control ports; or `TB_TICK` of R92, one
count and `more` counts after it, whose expansion depends on the states it meets. -/
inductive Line where
  | op (w : Word)
  | main (inp : Inputs)
  | pins (p : Pins)
  | tick (more : Nat)
  deriving DecidableEq, Repr, Inhabited

/-- What the environment may choose to happen next in the composed block (20_memory.md R69, 44_arbiter_sequencer.md
R193): a timer count, a step of MAIN, a clock edge at HOST's control ports, or a read by HOST. -/
inductive EnvEvent where
  | count
  | main (inp : Inputs)
  | pins (p : Pins)
  | readUs
  | readMs
  deriving DecidableEq, Repr, Inhabited

end Sys2Proof
end

