-- ==== Sys2Proof/Config.lean ====
section
/-! DEFINITION. The constants the source fixes (00_scope.md R7), the parameters it leaves open (R8), the reference
configuration (R9), and the free values. -/

namespace Sys2Proof

/-- `SEC_REMARK` (00_scope.md R8, 42_clock_fsm.md R147): how the mark of the second cadence moves. -/
inductive SecRemark where
  | add
  | now
  deriving DecidableEq, Repr

/-- The parameters of 00_scope.md R8 that a rule reads. Plain data: State holds one (log entry 2). -/
structure Config where
  tmrW             : Nat
  usNum            : Nat
  usDen            : Nat
  secPeriodMs      : Nat
  secRemark        : SecRemark
  idleRevertStrict : Bool
  idleW            : Nat
  trigPulseUs      : Nat
  echoLowTimeoutUs : Nat
  distW            : Nat
  revActive        : Bool
  btnInParking     : Bool
  deriving DecidableEq, Repr

/-- `MONO_W` (R7). -/
def Config.monoW : Nat := 64
/-- `HOURS_MOD` (R7). -/
def Config.hoursMod : Nat := 24
/-- `MIN_MOD` (R7). -/
def Config.minMod : Nat := 60
/-- `SEC_MOD` (R7). -/
def Config.secMod : Nat := 60
/-- `IDLE_THRESHOLD` (R7), in seconds. -/
def Config.idleThreshold : Nat := 5
/-- `MS_DIV` (R7). -/
def Config.msDiv : Nat := 1000
/-- `ECHO_HIGH_TIMEOUT_US` (R7). -/
def Config.echoHighTimeoutUs : Nat := 1000000
/-- `RECOVERY_US` (R7). -/
def Config.recoveryUs : Nat := 250000
/-- `K_NUM` (R7, 30_encoding.md R89). -/
def Config.kNum : Nat := 10
/-- `K_DEN` (R7, 30_encoding.md R89). -/
def Config.kDen : Nat := 582

/-- A band: the half-open interval [lo, hi) of raw readings (00_scope.md R10, R14). -/
structure Band where
  lo : Nat
  hi : Nat
  deriving DecidableEq, Repr

/-- `BAND_MODE` (R7). -/
def Config.bandMode : Band := ⟨340, 450⟩
/-- `BAND_INC` (R7). -/
def Config.bandInc : Band := ⟨210, 280⟩
/-- `BAND_DEC` (R7). -/
def Config.bandDec : Band := ⟨130, 200⟩

/-- `TMR_RANGE` = 2^`TMR_W` (R8). -/
def Config.tmrRange (c : Config) : Nat := 2 ^ c.tmrW

/-- The reference configuration `REFCFG`: every default of R8 (00_scope.md R9). -/
def Config.ref : Config where
  tmrW := 8
  usNum := 4
  usDen := 1
  secPeriodMs := 1000
  secRemark := .add
  idleRevertStrict := true
  idleW := 8
  trigPulseUs := 10
  echoLowTimeoutUs := 1000000
  distW := 32
  revActive := true
  btnInParking := true

/-- `CLK_PER_COUNT` (R8): OPEN, a positive integer with no default. No rule depends on it (70_reset_and_hazards.md
R250), so nothing reads it (log entry 17). -/
opaque Config.clkPerCount : PNat

/-- What the environment does where no script says it: the `n`-th choice is this value at `n`, which nothing
constrains. The order of the agents' steps is free (20_memory.md R69), and so are the sampled levels (log entry 6). -/
opaque Config.freeEvent : Nat → EnvEvent

/-- How many free choices the environment makes, from its `n`-th choice on, before the timer counts again: a number that
nothing constrains, but a number, so that the timer is never starved (20_memory.md R72; log entry 22). -/
opaque Config.freeGap : Nat → Nat

end Sys2Proof
end

