-- ==== Sys2Proof/WellFormed.lean ====
section
/-! DEFINITION. Which operands an operation word can carry (20_memory.md R64) and which parameter values are a
configuration (00_scope.md R8, 93_implementation_defined.md U12). -/

namespace Sys2Proof

/-- The one range constraint on an operand: `raw` is 10 bits (20_memory.md R64, 30_encoding.md R82). -/
def Instr.wellFormed : Instr → Bool
  | .btSample raw => decide (raw < 1024)
  | .tbCount => true
  | .tbOvf => true
  | .tbRdus => true
  | .tbRdms => true
  | .tbIrqoff => true
  | .tbIrqon => true
  | .ckSec => true
  | .ckMode => true
  | .ckInc => true
  | .ckDec => true
  | .ckSecchk => true
  | .rgTrig => true
  | .rgTrigw => true
  | .rgWaith _ => true
  | .rgWaitl _ => true
  | .rgRecov => true
  | .arSel _ => true
  | .sysReset => true

/-- The constraints of 00_scope.md R8 and the constraint of 43_ranging.md R165 on `DIST_W`: the largest distance fits. -/
def Config.valid (c : Config) : Bool :=
  decide (1 ≤ c.tmrW ∧ c.tmrW ≤ 32 ∧ 0 < c.usNum ∧ 0 < c.usDen ∧ 0 < c.secPeriodMs ∧ 3 ≤ c.idleW ∧ 0 < c.trigPulseUs ∧
    0 < c.echoLowTimeoutUs ∧ c.echoLowTimeoutUs < 2 ^ 32 ∧ 16 ≤ c.distW ∧
    (c.echoLowTimeoutUs - 1) * Config.kNum / Config.kDen < 2 ^ c.distW)

/-- The parameters are a configuration (93_implementation_defined.md U12). -/
abbrev Config.Valid (c : Config) : Prop := c.valid = true

end Sys2Proof
end

