-- ==== Sys2Proof/Decode.lean ====
section
/-! DEFINITION. The operation word (30_encoding.md R80 to R85): its fields, the decoder, the encoder, and the operation
table of R84 as data. -/

namespace Sys2Proof

/-- Why a word selects no operation (30_encoding.md R85). -/
inductive DecodeError where
  /-- `fam` and `sub` name no row of R84. -/
  | unassignedOp (op : BitVec 6)
  /-- A bit of `arg` that the format requires to be zero is not. -/
  | operandBits (arg : BitVec 10)
  deriving DecidableEq, Repr

/-- `fam` = word[15:13] (R80). -/
def famField (w : Word) : BitVec 3 := w.extractLsb' 13 3
/-- `sub` = word[12:10] (R80). -/
def subField (w : Word) : BitVec 3 := w.extractLsb' 10 3
/-- `op` = word[15:10] (R80). -/
def opField (w : Word) : BitVec 6 := w.extractLsb' 10 6
/-- `arg` = word[9:0] (R80). -/
def argField (w : Word) : BitVec 10 := w.extractLsb' 0 10

/-- Format N: `arg` must be 0 (R81). -/
def formatN (arg : BitVec 10) (i : Instr) : Except DecodeError Instr :=
  if arg = 0 then .ok i else .error (.operandBits arg)

/-- Format L: `arg[0]` is the level, `arg[9:1]` must be 0 (R81, R82). -/
def formatL (arg : BitVec 10) (f : Bool → Instr) : Except DecodeError Instr :=
  if arg.extractLsb' 1 9 = 0 then .ok (f (arg.getLsbD 0)) else .error (.operandBits arg)

/-- Format A: `arg` is the reading, taken as an unsigned integer (R81, R82). -/
def formatA (arg : BitVec 10) (f : Nat → Instr) : Except DecodeError Instr :=
  .ok (f arg.toNat)

/-- The operation a word selects: the family by `fam` (R83), the operation within it by `sub`, the operand by the
row's format (R84). Every other word is rejected (R85). -/
def decode (w : Word) : Except DecodeError Instr :=
  match (famField w).toNat, (subField w).toNat with
  | 0, 0 => formatN (argField w) .tbCount
  | 0, 1 => formatN (argField w) .tbOvf
  | 0, 2 => formatN (argField w) .tbRdus
  | 0, 3 => formatN (argField w) .tbRdms
  | 0, 4 => formatN (argField w) .tbIrqoff
  | 0, 5 => formatN (argField w) .tbIrqon
  | 1, 0 => formatA (argField w) .btSample
  | 2, 0 => formatN (argField w) .ckSec
  | 2, 1 => formatN (argField w) .ckMode
  | 2, 2 => formatN (argField w) .ckInc
  | 2, 3 => formatN (argField w) .ckDec
  | 2, 4 => formatN (argField w) .ckSecchk
  | 3, 0 => formatN (argField w) .rgTrig
  | 3, 1 => formatN (argField w) .rgTrigw
  | 3, 2 => formatL (argField w) .rgWaith
  | 3, 3 => formatL (argField w) .rgWaitl
  | 3, 4 => formatN (argField w) .rgRecov
  | 4, 0 => formatL (argField w) .arSel
  | 7, 7 => formatN (argField w) .sysReset
  | _, _ => .error (.unassignedOp (opField w))

/-- `{fam, sub, arg}` (R80). -/
def packWord (fam sub : BitVec 3) (arg : BitVec 10) : Word := (fam ++ sub : BitVec 6) ++ arg

/-- `lvl` as an operand field: `arg[0]` (R81). -/
def levelArg (lvl : Bool) : BitVec 10 := if lvl then 1 else 0

/-- The word of a well-formed operation (R80 to R84). -/
def encode : Instr → Word
  | .tbCount => packWord 0 0 0
  | .tbOvf => packWord 0 1 0
  | .tbRdus => packWord 0 2 0
  | .tbRdms => packWord 0 3 0
  | .tbIrqoff => packWord 0 4 0
  | .tbIrqon => packWord 0 5 0
  | .btSample raw => packWord 1 0 (BitVec.ofNat 10 raw)
  | .ckSec => packWord 2 0 0
  | .ckMode => packWord 2 1 0
  | .ckInc => packWord 2 2 0
  | .ckDec => packWord 2 3 0
  | .ckSecchk => packWord 2 4 0
  | .rgTrig => packWord 3 0 0
  | .rgTrigw => packWord 3 1 0
  | .rgWaith lvl => packWord 3 2 (levelArg lvl)
  | .rgWaitl lvl => packWord 3 3 (levelArg lvl)
  | .rgRecov => packWord 3 4 0
  | .arSel lvl => packWord 4 0 (levelArg lvl)
  | .sysReset => packWord 7 7 0

/-- One row of the table of R84: a word `w` selects it when `w &&& mask = pat`. -/
structure OpRow where
  mnemonic : String
  pat      : Word
  mask     : Word
  deriving DecidableEq, Repr

/-- The table of R84, its columns `match` and `mask` copied from the spec and not computed from the decoder. -/
def opcodeTable : List OpRow :=
  [⟨"TB_COUNT", 0x0000, 0xFFFF⟩, ⟨"TB_OVF", 0x0400, 0xFFFF⟩, ⟨"TB_RDUS", 0x0800, 0xFFFF⟩, ⟨"TB_RDMS", 0x0C00, 0xFFFF⟩,
   ⟨"TB_IRQOFF", 0x1000, 0xFFFF⟩, ⟨"TB_IRQON", 0x1400, 0xFFFF⟩, ⟨"BT_SAMPLE", 0x2000, 0xFC00⟩,
   ⟨"CK_SEC", 0x4000, 0xFFFF⟩, ⟨"CK_MODE", 0x4400, 0xFFFF⟩, ⟨"CK_INC", 0x4800, 0xFFFF⟩, ⟨"CK_DEC", 0x4C00, 0xFFFF⟩,
   ⟨"CK_SECCHK", 0x5000, 0xFFFF⟩, ⟨"RG_TRIG", 0x6000, 0xFFFF⟩, ⟨"RG_TRIGW", 0x6400, 0xFFFF⟩,
   ⟨"RG_WAITH", 0x6800, 0xFFFE⟩, ⟨"RG_WAITL", 0x6C00, 0xFFFE⟩, ⟨"RG_RECOV", 0x7000, 0xFFFF⟩,
   ⟨"AR_SEL", 0x8000, 0xFFFE⟩, ⟨"SYS_RESET", 0xFC00, 0xFFFF⟩]

/-- Whether a word selects a row (R84). -/
def OpRow.selects (row : OpRow) (w : Word) : Bool := decide (w &&& row.mask = row.pat)

/-- The operation the decoder reads from the low `nbits` bits of `w`, the word's higher bits zero. -/
def decodeTableWord (nbits w : Nat) : Option Instr := (decode (BitVec.ofNat 16 (w % 2 ^ nbits))).toOption

end Sys2Proof
end

