-- ==== Sys2Proof/Machine/State.lean ====
section
/-! DEFINITION. The 23 registers of 10_state.md R20, their enumerations (30_encoding.md R86), the model's own fields
beside them, the reasons to stop, and the machine after reset (70_reset_and_hazards.md R231). -/

namespace Sys2Proof.Machine

/-- ClockMode (10_state.md R27). -/
inductive ClkMode where
  | normal
  | settingHours
  | settingMinutes
  deriving DecidableEq, Repr

/-- MainMode (10_state.md R36). -/
inductive MainMode where
  | clock
  | parking
  deriving DecidableEq, Repr

/-- ButtonIdentity (30_encoding.md R86, 41_button_decoder.md R131). -/
inductive ButtonId where
  | none
  | mode
  | inc
  | dec
  deriving DecidableEq, Repr

/-- The state of one measurement cycle (10_state.md R30). -/
inductive RState where
  | idle
  | trig
  | waith
  | waitl
  | recov
  deriving DecidableEq, Repr

/-- The frame phase (10_state.md R37). -/
inductive Phase where
  | arb
  | sec
  | btn
  | rng
  deriving DecidableEq, Repr

/-- The result of the last completed cycle (10_state.md R35). -/
inductive RRes where
  | none
  | ok
  | noEcho
  | echoStuck
  deriving DecidableEq, Repr

/-- The registers of the block: exactly the 23 of 10_state.md R20. `tcnt`, `idle` and `dist`, whose widths are
parameters, are unsigned integers below 2 to the power of their widths (R10; log entry 3); the enumerations have the
codes of `Machine/Ports.lean` (log entry 4). -/
@[ext] structure Regs where
  tcnt      : Nat
  mono      : Time
  ovfPend   : Bool
  ie        : Bool
  lMode     : Bool
  lInc      : Bool
  lDec      : Bool
  hh        : BitVec 5
  mm        : BitVec 6
  ss        : BitVec 6
  clkmode   : ClkMode
  idle      : Nat
  secMark   : Time
  rstate    : RState
  tMark     : Time
  tRise     : Time
  trig      : Bool
  status    : Bool
  dist      : Nat
  distValid : Bool
  rres      : RRes
  mainmode  : MainMode
  ph        : Phase
  deriving DecidableEq, Repr

/-- Every register at its reset value: 0, but `IE` = 1 (10_state.md R20, 70_reset_and_hazards.md R231). -/
def Regs.reset : Regs where
  tcnt := 0
  mono := 0
  ovfPend := false
  ie := true
  lMode := false
  lInc := false
  lDec := false
  hh := 0
  mm := 0
  ss := 0
  clkmode := .normal
  idle := 0
  secMark := 0
  rstate := .idle
  tMark := 0
  tRise := 0
  trig := false
  status := false
  dist := 0
  distValid := false
  rres := .none
  mainmode := .clock
  ph := .arb

/-- What one step showed that is no register (10_state.md R39 (c) to (e)): the strobes of R47, the value a read
returned, the `(id, edge)` a sample returned. -/
@[ext] structure Outputs where
  hbStb     : Bool := false
  sampleStb : Bool := false
  viewStb   : Bool := false
  read      : Option Time := none
  button    : Option (ButtonId × ButtonId) := none
  deriving DecidableEq, Repr

/-- The whole state: the block's registers, and the model's own fields (log entry 1). -/
structure State where
  /-- The parameters of 00_scope.md R8; no step writes them (70_reset_and_hazards.md R236 (a); log entry 2). -/
  cfg    : Config
  /-- The block's 23 registers. -/
  regs   : Regs
  /-- The strobes and returned values of the last step (log entry 15). -/
  out    : Outputs
  /-- Ghost: how many `TB_COUNT` since reset, the N of 40_timebase.md R117 (log entry 14). -/
  counts : Nat
  /-- Ghost: an overflow has been lost since reset (93_implementation_defined.md U3; log entry 14). -/
  lost   : Bool
  /-- The lines still to be applied (30_encoding.md R91; log entry 5). -/
  script : List Line
  /-- Which choice of the environment is the next one (log entry 6). -/
  env    : Nat
  /-- How many choices it has made since the last count that fairness forced (20_memory.md R72; log entry 22). -/
  since  : Nat
  deriving DecidableEq, Repr

/-- The block after reset under a configuration (70_reset_and_hazards.md R231, R236). -/
def State.resetWith (c : Config) : State where
  cfg := c
  regs := Regs.reset
  out := {}
  counts := 0
  lost := false
  script := []
  env := 0
  since := 0

/-- The block after reset in the reference configuration of 00_scope.md R9 (log entry 2). -/
def State.reset : State := State.resetWith Config.ref

/-- The faults: there are none. "No operation of this block faults, traps, aborts or returns an error"
(60_exceptions.md R200; log entry 12). -/
inductive Fault where
  deriving DecidableEq, Repr

/-- Why a step is refused. Each is outside the hardware's behaviour (60_exceptions.md R200). -/
inductive Refusal where
  /-- An operation that has no meaning in this model. Raised by no arm: every operation is modelled. Safe. -/
  | notModelled (mnemonic : String)
  /-- The operation is not enabled, so it has no step (44_arbiter_sequencer.md R192, U8). Raised by the meanings of
  `TB_OVF`, the `RG_` operations and `AR_SEL`. Safe: the hardware does not take this step either. -/
  | notEnabled (i : Instr)
  /-- The word selects no operation (30_encoding.md R85, U7). Raised by the line runner. Safe: such a word cannot
  reach the hardware. -/
  | invalidWord (w : Word) (why : DecodeError)
  /-- The script's next line is neither `TB_OVF` nor a reset while `TB_OVF` is urgent, so the script is ill-formed
(30_encoding.md R91, 60_exceptions.md R205; log entry 7). Raised by the line runner. Safe: no execution of the hardware
takes this line here. -/
  | overflowFirst (l : Line)
  /-- The parameters are no configuration (00_scope.md R8, U12). Raised by `step`. Safe: there is no such block. -/
  | notAConfiguration
  deriving DecidableEq, Repr

end Sys2Proof.Machine
end

