-- ==== Sys2Proof/Machine/Ops.lean ====
section
/-! DEFINITION. The operations every meaning is built from: reading the time base, elapsed time, writing the registers
whose widths are parameters, taking the overflow interrupt, and ending a step. -/

namespace Sys2Proof.Machine

/-- `now_us()` (40_timebase.md R114): floor((`MONO` + `TCNT`) × `US_NUM` / `US_DEN`) mod 2^64, the sum and the product
exact. `OVF_PEND` is not looked at. -/
def nowUs (c : Config) (r : Regs) : Time :=
  BitVec.ofNat 64 ((r.mono.toNat + r.tcnt) * c.usNum / c.usDen)

/-- `now_ms()` (40_timebase.md R115): the already reduced `now_us()` divided by 1000, rounded toward zero. -/
def nowMs (c : Config) (r : Regs) : Time :=
  BitVec.ofNat 64 ((nowUs c r).toNat / Config.msDiv)

/-- `elapsed(now, mark)` = (now − mark) mod 2^64, always in this order (40_timebase.md R116). -/
def elapsed (now mark : Time) : Time := now - mark

/-- Write `TCNT`, `TMR_W` bits wide (10_state.md R21). -/
def Regs.setTcnt (r : Regs) (c : Config) (n : Nat) : Regs := { r with tcnt := n % 2 ^ c.tmrW }

/-- Write `IDLE`, `IDLE_W` bits wide (10_state.md R28). -/
def Regs.setIdle (r : Regs) (c : Config) (n : Nat) : Regs := { r with idle := n % 2 ^ c.idleW }

/-- Write `DIST`, `DIST_W` bits wide (10_state.md R34). -/
def Regs.setDist (r : Regs) (c : Config) (n : Nat) : Regs := { r with dist := n % 2 ^ c.distW }

/-- TAKING THE INTERRUPT, the only one (60_exceptions.md R206, 40_timebase.md R111): `MONO` grows by the timer's full
range modulo 2^64 and the request is cleared. Nothing is saved and nothing else is touched, so there is nothing to
return from: "There is no return operation" (R207). -/
def takeOverflow (c : Config) (r : Regs) : Regs :=
  { r with mono := r.mono + BitVec.ofNat 64 c.tmrRange, ovfPend := false }

/-- End a step: its registers, and what it showed. A strobe not pulsed in this step is 0 (00_scope.md R11). -/
def State.commit (s : State) (r : Regs) (o : Outputs) : State := { s with regs := r, out := o }

/-- What a step shows when it pulses and returns nothing. -/
def quiet : Outputs := {}

/-- A step that happens only where its operation is enabled (44_arbiter_sequencer.md R192): elsewhere it is refused and
invents no effect. -/
def whenEnabled (on : Bool) (i : Instr) (t : State) : Host.Outcome State Fault Refusal :=
  if on then .next t else .refused (.notEnabled i)

/-- Go on from a next state; a refusal stays what it is. -/
def andThen (o : Host.Outcome State Fault Refusal) (f : State → State) : Host.Outcome State Fault Refusal :=
  match o with
  | .next t => .next (f t)
  | .fault e => .fault e
  | .refused e => .refused e

end Sys2Proof.Machine
end

