-- ==== Sys2Proof/Machine/Operands.lean ====
section
/-! DEFINITION. The operand forms: the reading of the button channel and its classification (41_button_decoder.md R130,
R131), and the operands the ports supply to a step of MAIN (30_encoding.md R82, R92). -/

namespace Sys2Proof.Machine

/-- Whether a reading lies in a half-open band (00_scope.md R10). -/
def inBand (b : Band) (raw : Nat) : Bool := decide (b.lo ≤ raw) && decide (raw < b.hi)

/-- `in_mode(raw)` (41_button_decoder.md R130). -/
def inMode (raw : Nat) : Bool := inBand Config.bandMode raw
/-- `in_inc(raw)` (R130). -/
def inInc (raw : Nat) : Bool := inBand Config.bandInc raw
/-- `in_dec(raw)` (R130). -/
def inDec (raw : Nat) : Bool := inBand Config.bandDec raw

/-- `classify(raw)` (41_button_decoder.md R131): the band the reading lies in, or none. -/
def classify (raw : Nat) : ButtonId :=
  if inMode raw then .mode else if inInc raw then .inc else if inDec raw then .dec else .none

/-- The operand of `BT_SAMPLE` at a step of MAIN: `adc_raw[9:0]` as an unsigned integer (10_state.md R42). -/
def rawOperand (inp : Inputs) : Nat := inp.adcRaw.toNat

/-- The port levels that the pseudo-operation `MAIN v` stands for (30_encoding.md R92): `raw` = `v`, every level `v[0]`.
That `v` has ten bits, as wide as the widest operand it supplies, is the model's choice (log entries 24 and 27). -/
def inputsOfValue (v : BitVec 10) : Inputs := ⟨v.getLsbD 0, v, v.getLsbD 0⟩

end Sys2Proof.Machine
end

