-- ==== Sys2Proof/Machine/Flags.lean ====
section
/-! DEFINITION. Every condition and flag the operations compute: the enabling conditions, the timer's wrap, the button
edges, the idle timeout, the elapsed second, the expiry of a wait, the level that means reverse gear. -/

namespace Sys2Proof.Machine

/-- "Enabled when" of every operation (files 40 to 44 of spec/, 44_arbiter_sequencer.md R192). -/
def enabled (r : Regs) : Instr → Bool
  | .tbOvf => r.ovfPend && r.ie
  | .rgTrig => decide (r.rstate = .idle)
  | .rgTrigw => decide (r.rstate = .trig)
  | .rgWaith _ => decide (r.rstate = .waith)
  | .rgWaitl _ => decide (r.rstate = .waitl)
  | .rgRecov => decide (r.rstate = .recov)
  | .arSel _ => decide (r.rstate = .idle)
  | .tbCount => true
  | .tbRdus => true
  | .tbRdms => true
  | .tbIrqoff => true
  | .tbIrqon => true
  | .btSample _ => true
  | .ckSec => true
  | .ckMode => true
  | .ckInc => true
  | .ckDec => true
  | .ckSecchk => true
  | .sysReset => true

/-- The timer wraps at its next count (40_timebase.md R110). -/
def timerWraps (c : Config) (r : Regs) : Bool := decide (r.tcnt = c.tmrRange - 1)

/-- The wrap finds the request already set, so one overflow is lost (40_timebase.md R110, 60_exceptions.md R208). -/
def overflowLost (c : Config) (r : Regs) : Bool := timerWraps c r && r.ovfPend

/-- `edge` of `BT_SAMPLE` (41_button_decoder.md R132): the button whose band is entered with its latch clear. -/
def buttonEdge (r : Regs) (raw : Nat) : ButtonId :=
  if inMode raw && !r.lMode then .mode
  else if inInc raw && !r.lInc then .inc
  else if inDec raw && !r.lDec then .dec
  else .none

/-- `revert` (42_clock_fsm.md R141): the incremented idle count exceeds the threshold, or reaches it where
`IDLE_REVERT_STRICT` is false. -/
def idleReverts (c : Config) (n : Nat) : Bool :=
  if c.idleRevertStrict then decide (n > Config.idleThreshold) else decide (n ≥ Config.idleThreshold)

/-- A bound has passed since a mark: `elapsed(now, mark) >= bound` (40_timebase.md R116). -/
def expired (now mark : Time) (bound : Nat) : Bool := decide (bound ≤ (elapsed now mark).toNat)

/-- A second has elapsed since `SEC_MARK` (42_clock_fsm.md R147). -/
def secondDue (c : Config) (r : Regs) : Bool := expired (nowMs c r) r.secMark c.secPeriodMs

/-- The level means reverse gear (44_arbiter_sequencer.md R180). -/
def meansReverse (c : Config) (lvl : Bool) : Bool := lvl == c.revActive

end Sys2Proof.Machine
end

