-- ==== Sys2Proof/Machine/Arbiter.lean ====
section
/-! DEFINITION. The Mode Arbiter's operation (44_arbiter_sequencer.md R180) and the system reset (R191). -/

namespace Sys2Proof.Machine

/-- The registers after the reverse line is sampled: Parking asserts `STATUS`, Clock leaves it (R180, R182). -/
def selectMode (c : Config) (r : Regs) (lvl : Bool) : Regs :=
  if meansReverse c lvl then { r with mainmode := .parking, status := true } else { r with mainmode := .clock }

/-- `AR_SEL lvl` (R180). -/
def execArSel (lvl : Bool) (s : State) : Host.Outcome State Fault Refusal :=
  whenEnabled (enabled s.regs (.arSel lvl)) (.arSel lvl) (s.commit (selectMode s.cfg s.regs lvl) quiet)

/-- `SYS_RESET` (R191): every register to its reset value, no strobe. The time base restarts, so the ghosts that count it
restart too (log entry 14). -/
def execSysReset (s : State) : Host.Outcome State Fault Refusal :=
  .next { s.commit Regs.reset quiet with counts := 0, lost := false }

end Sys2Proof.Machine
end

