-- ==== Sys2Proof/Machine/Buttons.lean ====
section
/-! DEFINITION. The Analog Button Decoder's operation (41_button_decoder.md R132). -/

namespace Sys2Proof.Machine

/-- All three latches follow their bands at every sample (R132). -/
def latchBands (r : Regs) (raw : Nat) : Regs :=
  { r with lMode := inMode raw, lInc := inInc raw, lDec := inDec raw }

/-- `BT_SAMPLE raw` (R132): returns `(id, edge)`, the edge computed from the latches before the sample. -/
def execBtSample (raw : Nat) (s : State) : Host.Outcome State Fault Refusal :=
  .next (s.commit (latchBands s.regs raw) { quiet with button := some (classify raw, buttonEdge s.regs raw) })

end Sys2Proof.Machine
end

