-- ==== Sys2Proof/Machine/Clock.lean ====
section
/-! DEFINITION. The Clock State Machine's five operations (42_clock_fsm.md R141 to R147). -/

namespace Sys2Proof.Machine

/-- Time advance in Normal: seconds roll into minutes, minutes into hours, hours wrap at 24 (R141). -/
def advanceTime (r : Regs) : Regs :=
  if r.ss = 59 then
    if r.mm = 59 then
      if r.hh = 23 then { r with ss := 0, mm := 0, hh := 0 } else { r with ss := 0, mm := 0, hh := r.hh + 1 }
    else { r with ss := 0, mm := r.mm + 1 }
  else { r with ss := r.ss + 1 }

/-- The idle timeout of a setting state (R141); `IDLE` + 1 is exact (log entry 19). -/
def idleSecond (c : Config) (r : Regs) : Regs :=
  if idleReverts c (r.idle + 1) then { r with clkmode := .normal, idle := 0 } else r.setIdle c (r.idle + 1)

/-- One elapsed second applied to the clock machine (R141), alone or inside `CK_SECCHK`. -/
def applySecond (c : Config) (r : Regs) : Regs :=
  match r.clkmode with
  | .normal => advanceTime r
  | .settingHours => idleSecond c r
  | .settingMinutes => idleSecond c r

/-- Normal, SettingHours, SettingMinutes, Normal (R143). -/
def ClkMode.advance : ClkMode → ClkMode
  | .normal => .settingHours
  | .settingHours => .settingMinutes
  | .settingMinutes => .normal

/-- The mode-button edge (R143). -/
def modeEdge (r : Regs) : Regs := { r with clkmode := r.clkmode.advance, idle := 0 }

/-- The hour set forward by `by_` modulo 24 (R144, R145). -/
def addHours (r : Regs) (by_ : Nat) : Regs := { r with hh := BitVec.ofNat 5 ((r.hh.toNat + by_) % Config.hoursMod), idle := 0 }

/-- The minute set forward by `by_` modulo 60, with no carry (R144, R145). -/
def addMinutes (r : Regs) (by_ : Nat) : Regs := { r with mm := BitVec.ofNat 6 ((r.mm.toNat + by_) % Config.minMod), idle := 0 }

/-- The increment-button edge (R144). -/
def incEdge (r : Regs) : Regs :=
  match r.clkmode with
  | .normal => r
  | .settingHours => addHours r 1
  | .settingMinutes => addMinutes r 1

/-- The decrement-button edge, written as an addition of the modulus less one (R145). -/
def decEdge (r : Regs) : Regs :=
  match r.clkmode with
  | .normal => r
  | .settingHours => addHours r 23
  | .settingMinutes => addMinutes r 59

/-- `SEC_MARK` after a detected second: one period later, or now (R147). -/
def remark (c : Config) (r : Regs) : Regs :=
  match c.secRemark with
  | .add => { r with secMark := r.secMark + BitVec.ofNat 64 c.secPeriodMs }
  | .now => { r with secMark := nowMs c r }

/-- `CK_SEC` (R141). -/
def execCkSec (s : State) : Host.Outcome State Fault Refusal :=
  .next (s.commit (applySecond s.cfg s.regs) quiet)

/-- `CK_MODE` (R143). -/
def execCkMode (s : State) : Host.Outcome State Fault Refusal :=
  .next (s.commit (modeEdge s.regs) quiet)

/-- `CK_INC` (R144). -/
def execCkInc (s : State) : Host.Outcome State Fault Refusal :=
  .next (s.commit (incEdge s.regs) quiet)

/-- `CK_DEC` (R145). -/
def execCkDec (s : State) : Host.Outcome State Fault Refusal :=
  .next (s.commit (decEdge s.regs) quiet)

/-- `CK_SECCHK` (R147): at most one elapsed second is detected, and applied in the same atomic step. -/
def execCkSecchk (s : State) : Host.Outcome State Fault Refusal :=
  if secondDue s.cfg s.regs then
    .next (s.commit (applySecond s.cfg (remark s.cfg s.regs)) { quiet with hbStb := true })
  else .next (s.commit s.regs quiet)

end Sys2Proof.Machine
end

