-- ==== Sys2Proof/Machine/Ranging.lean ====
section
/-! DEFINITION. The Ranging Engine's five operations and its converter (43_ranging.md R161 to R167). -/

namespace Sys2Proof.Machine

/-- `dist_of_width(w)` before the reduction to `DIST_W` bits: floor(`w` × `K_NUM` / `K_DEN`) centimetres (R165). -/
def centimetres (w : Nat) : Nat := w * Config.kNum / Config.kDen

/-- `dist_of_width(w)` (R165). -/
def distOfWidth (c : Config) (w : Nat) : Nat := centimetres w % 2 ^ c.distW

/-- The registers at the start of a cycle (R161). -/
def startCycle (c : Config) (r : Regs) : Regs :=
  { r with status := false, trig := true, tMark := nowUs c r, rstate := .trig }

/-- One poll of the trigger-pulse delay (R162). -/
def pollTrigger (c : Config) (r : Regs) : Regs :=
  if expired (nowUs c r) r.tMark c.trigPulseUs then { r with trig := false, tMark := nowUs c r, rstate := .waith } else r

/-- A cycle that yields no sample goes to its recovery delay; `DIST` and `DIST_VALID` stay (R163, R164, R166). -/
def noSample (c : Config) (r : Regs) (why : RRes) : Regs :=
  { r with rres := why, tMark := nowUs c r, rstate := .recov }

/-- One poll of the wait for the rise, the timeout tested first (R163, R168). -/
def pollRise (c : Config) (r : Regs) (lvl : Bool) : Regs :=
  if expired (nowUs c r) r.tMark Config.echoHighTimeoutUs then noSample c r .noEcho
  else if lvl then { r with tRise := nowUs c r, rstate := .waitl }
  else r

/-- The echo pulse width so far (R164). -/
def echoWidth (c : Config) (r : Regs) : Nat := (elapsed (nowUs c r) r.tRise).toNat

/-- The wait for the fall has timed out (R164). -/
def fallTimedOut (c : Config) (r : Regs) : Bool := expired (nowUs c r) r.tRise c.echoLowTimeoutUs

/-- The registers after a sample (R164, R166). -/
def takeSample (c : Config) (r : Regs) : Regs :=
  { r.setDist c (distOfWidth c (echoWidth c r)) with
    distValid := true, rres := .ok, tMark := nowUs c r, rstate := .recov }

/-- This poll sees the fall in time, so it yields a sample (R164, R166, R168). -/
def yieldsSample (c : Config) (r : Regs) (lvl : Bool) : Bool := !fallTimedOut c r && !lvl

/-- One poll of the wait for the fall, the timeout tested first (R164, R168). -/
def pollFall (c : Config) (r : Regs) (lvl : Bool) : Regs :=
  if fallTimedOut c r then noSample c r .echoStuck
  else if !lvl then takeSample c r
  else r

/-- One poll of the recovery delay (R167). -/
def pollRecovery (c : Config) (r : Regs) : Regs :=
  if expired (nowUs c r) r.tMark Config.recoveryUs then { r with status := true, rstate := .idle } else r

/-- `RG_TRIG` (R161). -/
def execRgTrig (s : State) : Host.Outcome State Fault Refusal :=
  whenEnabled (enabled s.regs .rgTrig) .rgTrig (s.commit (startCycle s.cfg s.regs) quiet)

/-- `RG_TRIGW` (R162). -/
def execRgTrigw (s : State) : Host.Outcome State Fault Refusal :=
  whenEnabled (enabled s.regs .rgTrigw) .rgTrigw (s.commit (pollTrigger s.cfg s.regs) quiet)

/-- `RG_WAITH lvl` (R163). -/
def execRgWaith (lvl : Bool) (s : State) : Host.Outcome State Fault Refusal :=
  whenEnabled (enabled s.regs (.rgWaith lvl)) (.rgWaith lvl) (s.commit (pollRise s.cfg s.regs lvl) quiet)

/-- `RG_WAITL lvl` (R164): `sample_stb` pulses exactly when a sample is written (R166). -/
def execRgWaitl (lvl : Bool) (s : State) : Host.Outcome State Fault Refusal :=
  whenEnabled (enabled s.regs (.rgWaitl lvl)) (.rgWaitl lvl)
    (s.commit (pollFall s.cfg s.regs lvl) { quiet with sampleStb := yieldsSample s.cfg s.regs lvl })

/-- `RG_RECOV` (R167). -/
def execRgRecov (s : State) : Host.Outcome State Fault Refusal :=
  whenEnabled (enabled s.regs .rgRecov) .rgRecov (s.commit (pollRecovery s.cfg s.regs) quiet)

end Sys2Proof.Machine
end

