-- ==== Sys2Proof/Machine/TimeBase.lean ====
section
/-! DEFINITION. The six Time Base operations (40_timebase.md R110 to R115). -/

namespace Sys2Proof.Machine

/-- The registers after one count of the timer (R110). -/
def countTimer (c : Config) (r : Regs) : Regs :=
  if timerWraps c r then { r.setTcnt c 0 with ovfPend := true } else r.setTcnt c (r.tcnt + 1)

/-- `TB_COUNT` (R110). The ghost fields record the count and a lost overflow (log entry 14). -/
def execTbCount (s : State) : Host.Outcome State Fault Refusal :=
  .next { s.commit (countTimer s.cfg s.regs) quiet with
    counts := s.counts + 1, lost := s.lost || overflowLost s.cfg s.regs }

/-- `TB_OVF`, the overflow interrupt handler (R111). -/
def execTbOvf (s : State) : Host.Outcome State Fault Refusal :=
  whenEnabled (enabled s.regs .tbOvf) .tbOvf (s.commit (takeOverflow s.cfg s.regs) quiet)

/-- `TB_RDUS` (R114): the value is returned and no register is written. -/
def execTbRdus (s : State) : Host.Outcome State Fault Refusal :=
  .next (s.commit s.regs { quiet with read := some (nowUs s.cfg s.regs) })

/-- `TB_RDMS` (R115): the value is returned and no register is written. -/
def execTbRdms (s : State) : Host.Outcome State Fault Refusal :=
  .next (s.commit s.regs { quiet with read := some (nowMs s.cfg s.regs) })

/-- `TB_IRQOFF` (R112). -/
def execTbIrqoff (s : State) : Host.Outcome State Fault Refusal :=
  .next (s.commit { s.regs with ie := false } quiet)

/-- `TB_IRQON` (R113). -/
def execTbIrqon (s : State) : Host.Outcome State Fault Refusal :=
  .next (s.commit { s.regs with ie := true } quiet)

end Sys2Proof.Machine
end

