-- ==== Sys2Proof/Machine/Dispatch.lean ====
section
/-! DEFINITION. Which meaning each operation of 30_encoding.md R84 has. -/

namespace Sys2Proof.Machine

/-- One operation applied by itself, at unit level (44_arbiter_sequencer.md R193). -/
def exec (i : Instr) (s : State) : Host.Outcome State Fault Refusal :=
  match i with
  | .tbCount => Sys2Proof.Machine.execTbCount s
  | .tbOvf => Sys2Proof.Machine.execTbOvf s
  | .tbRdus => Sys2Proof.Machine.execTbRdus s
  | .tbRdms => Sys2Proof.Machine.execTbRdms s
  | .tbIrqoff => Sys2Proof.Machine.execTbIrqoff s
  | .tbIrqon => Sys2Proof.Machine.execTbIrqon s
  | .btSample raw => Sys2Proof.Machine.execBtSample raw s
  | .ckSec => Sys2Proof.Machine.execCkSec s
  | .ckMode => Sys2Proof.Machine.execCkMode s
  | .ckInc => Sys2Proof.Machine.execCkInc s
  | .ckDec => Sys2Proof.Machine.execCkDec s
  | .ckSecchk => Sys2Proof.Machine.execCkSecchk s
  | .rgTrig => Sys2Proof.Machine.execRgTrig s
  | .rgTrigw => Sys2Proof.Machine.execRgTrigw s
  | .rgWaith lvl => Sys2Proof.Machine.execRgWaith lvl s
  | .rgWaitl lvl => Sys2Proof.Machine.execRgWaitl lvl s
  | .rgRecov => Sys2Proof.Machine.execRgRecov s
  | .arSel lvl => Sys2Proof.Machine.execArSel lvl s
  | .sysReset => Sys2Proof.Machine.execSysReset s

end Sys2Proof.Machine
end

