-- ==== Sys2Proof/Machine/Sequencer.lean ====
section
/-! DEFINITION. One step of the composed block: the sequencer's table and the dispatch of a button edge
(44_arbiter_sequencer.md R184, R186), the control ports (10_state.md R41), the urgency of the interrupt
(60_exceptions.md R205), and where the next line of an execution comes from (30_encoding.md R91, 20_memory.md R69). -/

namespace Sys2Proof.Machine

/-- The operation MAIN performs next: the third column of the table of R184. -/
def mainOp (r : Regs) (inp : Inputs) : Instr :=
  match r.ph with
  | .arb => .arSel inp.rev
  | .sec => .ckSecchk
  | .btn => .btSample (rawOperand inp)
  | .rng =>
    match r.rstate with
    | .idle => .rgTrig
    | .trig => .rgTrigw
    | .waith => .rgWaith inp.echo
    | .waitl => .rgWaitl inp.echo
    | .recov => .rgRecov

/-- `dispatch(edge)` (R186). -/
def dispatchEdge (c : Config) (edge : ButtonId) (r : Regs) : Regs :=
  if r.mainmode = .clock ∨ c.btnInParking = true then
    match edge with
    | .none => r
    | .mode => modeEdge r
    | .inc => incEdge r
    | .dec => decEdge r
  else r

/-- `PH` after the step (R184), from the registers before the operation and those it left: the test of `RSTATE` after
`RG_RECOV` uses the value that operation has just written. -/
def phaseAfter (before after : Regs) : Phase :=
  match before.ph with
  | .arb => .sec
  | .sec => .btn
  | .btn => if after.mainmode = .parking then .rng else .arb
  | .rng =>
    match before.rstate with
    | .recov => if after.rstate = .idle then .arb else .rng
    | .idle => .rng
    | .trig => .rng
    | .waith => .rng
    | .waitl => .rng

/-- `edge` of the sample a step took, none where it took none (41_button_decoder.md R132). -/
def Outputs.edge (o : Outputs) : ButtonId :=
  match o.button with
  | some (_, e) => e
  | none => .none

/-- What the sequencer adds to the operation, in the same atomic step: the dispatch of an edge, the write of `PH`, and
`view_stb` where the frame ends (R184, R186, R189). -/
def finishMain (before : Regs) (t : State) : State :=
  { t with
    regs := { dispatchEdge t.cfg t.out.edge t.regs with ph := phaseAfter before t.regs }
    out := { t.out with viewStb := decide (phaseAfter before t.regs = .arb) } }

/-- One step of MAIN (R184). -/
def mainStep (inp : Inputs) (s : State) : Host.Outcome State Fault Refusal :=
  andThen (exec (mainOp s.regs inp) s) (finishMain s.regs)

/-- A clock edge with the control ports at given levels (10_state.md R41, 44_arbiter_sequencer.md R191): `rst` wins,
then `ie_clr`, then `ie_set`; with all three 0 HOST performs nothing (log entry 16). -/
def hostEdge (p : Pins) (s : State) : Host.Outcome State Fault Refusal :=
  if p.rst then exec .sysReset s
  else if p.ieClr then exec .tbIrqoff s
  else if p.ieSet then exec .tbIrqon s
  else .next (s.commit s.regs quiet)

/-- `TB_OVF` is enabled, hence urgent (60_exceptions.md R205). -/
def interruptUrgent (r : Regs) : Bool := enabled r .tbOvf

/-- The lines of `n` counts of one `TB_TICK` (30_encoding.md R92). -/
def tickLines : Nat → List Line
  | 0 => []
  | n + 1 => [.tick n]

/-- What follows one count of a `TB_TICK` in its expansion: `TB_OVF` where that count left `OVF_PEND` = 1 and `IE` = 1,
then the counts that are left (30_encoding.md R92; log entry 7). -/
def finishTick (more : Nat) (t : State) : State :=
  { t with script := (if interruptUrgent t.regs then [.op (encode .tbOvf)] else []) ++ (tickLines more ++ t.script) }

/-- One line of an execution. A word that selects no operation is refused (30_encoding.md R85). -/
def runLine (l : Line) (s : State) : Host.Outcome State Fault Refusal :=
  match l with
  | .op w =>
    match decode w with
    | .ok i => exec i s
    | .error e => .refused (.invalidWord w e)
  | .main inp => mainStep inp s
  | .pins p => hostEdge p s
  | .tick more => andThen (exec .tbCount s) (finishTick more)

/-- The line that a choice of the environment stands for. -/
def eventLine : EnvEvent → Line
  | .count => .op (encode .tbCount)
  | .main inp => .main inp
  | .pins p => .pins p
  | .readUs => .op (encode .tbRdus)
  | .readMs => .op (encode .tbRdms)

/-- The timer must count now: the free choices allowed since its last forced count are made, `n` being the index of the
choice and `since` how many they are (20_memory.md R72; log entry 22). -/
def countDue (gap : Nat → Nat) (n since : Nat) : Bool := decide (gap (n - since) ≤ since)

/-- The environment's `n`-th choice: a count where one is due, and whatever it likes elsewhere (R69, R72). -/
def chooseEvent (free : Nat → EnvEvent) (gap : Nat → Nat) (n since : Nat) : EnvEvent :=
  if countDue gap n since then .count else free n

/-- How many choices stand since the last forced count, after the `n`-th. -/
def nextSince (gap : Nat → Nat) (n since : Nat) : Nat := if countDue gap n since then 0 else since + 1

/-- The next line: the script's first (30_encoding.md R91), or, where the script is empty, whatever the environment
chooses, which fairness to the timer alone constrains (20_memory.md R69, R72; log entries 5, 6 and 22). -/
def nextLine (s : State) : Line :=
  match s.script with
  | l :: _ => l
  | [] => eventLine (chooseEvent Config.freeEvent Config.freeGap s.env s.since)

/-- The state once the next line is taken. -/
def takeLine (s : State) : State :=
  match s.script with
  | _ :: rest => { s with script := rest }
  | [] => { s with env := s.env + 1, since := nextSince Config.freeGap s.env s.since }

/-- The line may stand before an urgent interrupt: it is `TB_OVF` itself, or a reset (60_exceptions.md R205; log
entries 7 and 8). -/
def goesFirst (l : Line) : Bool :=
  match l with
  | .op w =>
    match decode w with
    | .ok .tbOvf => true
    | .ok .sysReset => true
    | _ => false
  | .main _ => false
  | .pins p => p.rst
  | .tick _ => false

/-- One step of an execution of a configured block (60_exceptions.md R205, 20_memory.md R69). While the interrupt is
urgent, a script whose next line is neither `TB_OVF` nor a reset is ill-formed (30_encoding.md R91), and where there is no
script the interrupt is taken before whatever the environment chooses but a reset. -/
def stepLine (s : State) : Host.Outcome State Fault Refusal :=
  if interruptUrgent s.regs && !goesFirst (nextLine s) then
    match s.script with
    | [] => exec .tbOvf s
    | l :: _ => .refused (.overflowFirst l)
  else runLine (nextLine s) (takeLine s)

/-- Put one operation word before the script. -/
def State.pushWord (s : State) (w : Word) : State := { s with script := .op w :: s.script }

end Sys2Proof.Machine
end

