-- ==== Sys2Proof/Machine/Step.lean ====
section
/-! DEFINITION. The step of the machine, and how a word comes to be the next it runs. -/

namespace Sys2Proof.Machine

/-- One atomic step (20_memory.md R66, R69). Parameters that are no configuration are refused
(93_implementation_defined.md U12; log entry 11). -/
def step (s : State) : Host.Outcome State Fault Refusal :=
  if s.cfg.Valid then stepLine s else .refused .notAConfiguration

/-- The state whose next line is the low `nbits` bits of `w` (log entry 5). -/
def State.withFetchWord (s : State) (nbits w : Nat) : State := s.pushWord (BitVec.ofNat 16 (w % 2 ^ nbits))

end Sys2Proof.Machine
end

