-- ==== Sys2Proof/Machine/Ports.lean ====
section
/-! DEFINITION. The output ports as functions of the registers (10_state.md R45, R46), the codes of the enumerations
(30_encoding.md R86), and the view a frame presents (44_arbiter_sequencer.md R189). -/

namespace Sys2Proof.Machine

/-- The code of ClockMode (R86); 3 is reserved and no value has it. -/
def ClkMode.code : ClkMode → BitVec 2
  | .normal => 0
  | .settingHours => 1
  | .settingMinutes => 2

/-- The code of MainMode (R86). -/
def MainMode.code : MainMode → BitVec 1
  | .clock => 0
  | .parking => 1

/-- The code of ButtonIdentity (R86). -/
def ButtonId.code : ButtonId → BitVec 2
  | .none => 0
  | .mode => 1
  | .inc => 2
  | .dec => 3

/-- The code of the ranging state (R86); 5 to 7 are reserved and no value has one of them. -/
def RState.code : RState → BitVec 3
  | .idle => 0
  | .trig => 1
  | .waith => 2
  | .waitl => 3
  | .recov => 4

/-- The code of the frame phase (R86). -/
def Phase.code : Phase → BitVec 2
  | .arb => 0
  | .sec => 1
  | .btn => 2
  | .rng => 3

/-- The code of the ranging result (R86). -/
def RRes.code : RRes → BitVec 2
  | .none => 0
  | .ok => 1
  | .noEcho => 2
  | .echoStuck => 3

/-- The level outputs of 10_state.md R45 and R46. `distCm` is `DIST_W` bits wide. -/
structure Ports where
  trig      : Bool
  status    : Bool
  hours     : BitVec 5
  minutes   : BitVec 6
  seconds   : BitVec 6
  clkmode   : BitVec 2
  mainmode  : BitVec 1
  distCm    : Nat
  distValid : Bool
  rres      : BitVec 2
  nowUs     : Time
  nowMs     : Time
  deriving DecidableEq, Repr

/-- The level outputs in a state (R45, R46). -/
def State.ports (s : State) : Ports where
  trig := s.regs.trig
  status := s.regs.status
  hours := s.regs.hh
  minutes := s.regs.mm
  seconds := s.regs.ss
  clkmode := s.regs.clkmode.code
  mainmode := s.regs.mainmode.code
  distCm := s.regs.dist
  distValid := s.regs.distValid
  rres := s.regs.rres.code
  nowUs := nowUs s.cfg s.regs
  nowMs := nowMs s.cfg s.regs

/-- What the Presentation Adapter is to render at `view_stb` (44_arbiter_sequencer.md R189). -/
inductive View where
  | clock (hours : BitVec 5) (minutes seconds : BitVec 6) (mode : BitVec 2)
  | ranging (distCm : Nat) (valid : Bool)
  deriving DecidableEq, Repr

/-- The view that `mainmode` selects (R189). -/
def State.view (s : State) : View :=
  match s.regs.mainmode with
  | .clock => .clock s.regs.hh s.regs.mm s.regs.ss s.regs.clkmode.code
  | .parking => .ranging s.regs.dist s.regs.distValid

end Sys2Proof.Machine
end

