-- ==== Sys2Proof/Machine/Script.lean ====
section
/-! DEFINITION. Scripts: the pseudo-operations and their expansion (30_encoding.md R92), the script text (R91), and
applying a script to a start state. -/

namespace Sys2Proof.Machine

/-- One line of script text: an operation, or a pseudo-operation of 30_encoding.md R92. -/
inductive Pseudo where
  | one (i : Instr)
  | tick (n : Nat)
  | rdusG
  | rdmsG
  | pressMode
  | pressInc
  | pressDec
  | release
  | secs (n : Nat)
  | main (v : BitVec 10)
  deriving DecidableEq, Repr

/-- The line of one operation. -/
def opLine (i : Instr) : Line := .op (encode i)

/-- The expansion of R92. That of `TB_TICK n` depends on the states it meets, so it goes on count by count where the line
is run (`finishTick`; log entry 7). -/
def Pseudo.expand : Pseudo → List Line
  | .one i => [opLine i]
  | .tick n => tickLines n
  | .rdusG => [opLine .tbIrqoff, opLine .tbRdus, opLine .tbIrqon]
  | .rdmsG => [opLine .tbIrqoff, opLine .tbRdms, opLine .tbIrqon]
  | .pressMode => [opLine (.btSample 395)]
  | .pressInc => [opLine (.btSample 245)]
  | .pressDec => [opLine (.btSample 165)]
  | .release => [opLine (.btSample 0)]
  | .secs n => List.replicate n (opLine .ckSec)
  | .main v => [.main (inputsOfValue v)]

/-- The pieces of a text between separators. -/
def splitText (sep : Char → Bool) : List Char → List (List Char)
  | [] => [[]]
  | ch :: rest =>
    match splitText sep rest with
    | [] => [[ch]]
    | p :: ps => if sep ch then [] :: p :: ps else (ch :: p) :: ps

/-- The value of a digit in a base up to 16. -/
def digitValue (base : Nat) (ch : Char) : Option Nat :=
  let n := ch.toNat
  let d := if 48 ≤ n ∧ n ≤ 57 then n - 48 else if 97 ≤ n ∧ n ≤ 102 then n - 87 else if 65 ≤ n ∧ n ≤ 70 then n - 55 else 16
  if d < base then some d else none

/-- The value of a run of digits, most significant first. -/
def digitsValue (base : Nat) : Nat → List Char → Option Nat
  | acc, [] => some acc
  | acc, ch :: rest => (digitValue base ch).bind fun d => digitsValue base (acc * base + d) rest

/-- An operand, decimal or `0x` hexadecimal (R91). -/
def parseNumber : List Char → Option Nat
  | [] => none
  | ['0', 'x'] => none
  | '0' :: 'x' :: ds => digitsValue 16 0 ds
  | ds => digitsValue 10 0 ds

/-- A level operand: 0 or 1 (30_encoding.md R81). -/
def parseLevel (t : List Char) : Option Bool :=
  match parseNumber t with
  | some 0 => some false
  | some 1 => some true
  | _ => none

/-- A 10-bit operand (30_encoding.md R82). -/
def parseReading (t : List Char) : Option Nat := (parseNumber t).bind fun n => if n < 1024 then some n else none

/-- A line with no operand. -/
def parseBare (m : String) : Option Pseudo :=
  match m with
  | "TB_COUNT" => some (.one .tbCount)
  | "TB_OVF" => some (.one .tbOvf)
  | "TB_RDUS" => some (.one .tbRdus)
  | "TB_RDMS" => some (.one .tbRdms)
  | "TB_IRQOFF" => some (.one .tbIrqoff)
  | "TB_IRQON" => some (.one .tbIrqon)
  | "CK_SEC" => some (.one .ckSec)
  | "CK_MODE" => some (.one .ckMode)
  | "CK_INC" => some (.one .ckInc)
  | "CK_DEC" => some (.one .ckDec)
  | "CK_SECCHK" => some (.one .ckSecchk)
  | "RG_TRIG" => some (.one .rgTrig)
  | "RG_TRIGW" => some (.one .rgTrigw)
  | "RG_RECOV" => some (.one .rgRecov)
  | "SYS_RESET" => some (.one .sysReset)
  | "TB_RDUS_G" => some .rdusG
  | "TB_RDMS_G" => some .rdmsG
  | "BT_RELEASE" => some .release
  | "MAIN" => some (.main 0)
  | _ => none

/-- A line with one operand. R92 bounds `v` of `MAIN v` nowhere: that it must be below 1024, as the reading of `BT_SAMPLE`
is, is the model's choice (log entry 27). -/
def parseWith (m : String) (t : List Char) : Option Pseudo :=
  match m with
  | "BT_SAMPLE" => (parseReading t).map fun n => .one (.btSample n)
  | "RG_WAITH" => (parseLevel t).map fun b => .one (.rgWaith b)
  | "RG_WAITL" => (parseLevel t).map fun b => .one (.rgWaitl b)
  | "AR_SEL" => (parseLevel t).map fun b => .one (.arSel b)
  | "TB_TICK" => (parseNumber t).map .tick
  | "CK_SECS" => (parseNumber t).map .secs
  | "MAIN" => (parseReading t).map fun n => .main (BitVec.ofNat 10 n)
  | "BT_PRESS" =>
    match String.ofList t with
    | "MODE" => some .pressMode
    | "INC" => some .pressInc
    | "DEC" => some .pressDec
    | _ => none
  | _ => none

/-- White space inside a line. -/
def isBlank (ch : Char) : Bool := ch == ' ' || ch == '\t' || ch == '\r'

/-- One line of text (R91): a comment runs from `;` to the end; a blank line is no operation (`some []`); a line that is
neither is an operation or nothing a script may hold (`none`). -/
def parseLine (l : List Char) : Option (List Line) :=
  match (splitText isBlank (l.takeWhile (· != ';'))).filter (· != []) with
  | [] => some []
  | [m] => (parseBare (String.ofList m)).map Pseudo.expand
  | [m, t] => (parseWith (String.ofList m) t).map Pseudo.expand
  | _ => none

/-- A whole script, line by line; one unreadable line makes the text no script (R91, log entry 23). -/
def parseLines : List (List Char) → Option (List Line)
  | [] => some []
  | l :: rest => (parseLine l).bind fun ls => (parseLines rest).map fun more => ls ++ more

/-- The lines of a script text (R91). -/
def parseScript (text : String) : Option (List Line) := parseLines (splitText (· == '\n') text.toList)

/-- A script placed before a state, to be applied from its first line to its last (R91). -/
def State.load (s : State) (lines : List Line) : State := { s with script := lines ++ s.script }

/-- The most steps a line can take: one, or for `TB_TICK` a count and a `TB_OVF` for each of its counts (R92). -/
def lineSteps : Line → Nat
  | .op _ => 1
  | .main _ => 1
  | .pins _ => 1
  | .tick more => 2 * (more + 1)

/-- The most steps a script can take. -/
def scriptSteps (ls : List Line) : Nat := (ls.map lineSteps).sum

/-- Step until no line is left. -/
def runLines : Nat → State → Host.Outcome State Fault Refusal
  | 0, s => .next s
  | fuel + 1, s =>
    if s.script.isEmpty then .next s
    else
      match step s with
      | .next t => runLines fuel t
      | .fault e => .fault e
      | .refused e => .refused e

/-- Apply a script from its first line to its last and nothing after it (30_encoding.md R91). A line that has no step
where it stands makes the script ill-formed, and the run ends in that refusal (44_arbiter_sequencer.md R192). -/
def runScript (s : State) : Host.Outcome State Fault Refusal := runLines (scriptSteps s.script) s

end Sys2Proof.Machine
end

