-- ==== Sys2Proof/Safety.lean ====
section
/-! DEFINITION. What a legal state and a safe run of the block are, in the terms the statements use: the invariants of
10_state.md R38, the law of the time base (40_timebase.md R117), the lines the composed block can take
(44_arbiter_sequencer.md R193), fairness (20_memory.md R72), and runs of repeated operations. -/

namespace Sys2Proof.Machine

/-- The largest `IDLE` an operation leaves (10_state.md R38 (c)). -/
def idleBound (c : Config) : Nat := if c.idleRevertStrict then Config.idleThreshold else Config.idleThreshold - 1

/-- The registers whose widths are parameters hold values of their widths (10_state.md R20; log entry 3). -/
structure Fits (c : Config) (r : Regs) : Prop where
  tcnt : r.tcnt < 2 ^ c.tmrW
  idle : r.idle < 2 ^ c.idleW
  dist : r.dist < 2 ^ c.distW

/-- The invariants (a) to (k) of 10_state.md R38, in its order. -/
structure RegInv (c : Config) (r : Regs) : Prop where
  hours       : r.hh.toNat ≤ 23
  minutes     : r.mm.toNat ≤ 59
  seconds     : r.ss.toNat ≤ 59
  clkmode     : r.clkmode.code ≠ 3
  idle        : r.idle ≤ idleBound c
  idleNormal  : r.clkmode = .normal → r.idle = 0
  rstate      : r.rstate.code.toNat ≤ 4
  latches     : ¬(r.lMode = true ∧ r.lInc = true) ∧ ¬(r.lMode = true ∧ r.lDec = true) ∧ ¬(r.lInc = true ∧ r.lDec = true)
  mono        : r.mono.toNat % c.tmrRange = 0
  trig        : r.trig = true ↔ r.rstate = .trig
  status      : r.rstate ≠ .idle → r.status = false
  noDistance  : r.distValid = false → r.dist = 0
  noResult    : r.rres = .none → r.distValid = false

/-- A legal state: a configuration, register widths kept, and (a) to (k) of 10_state.md R38. -/
structure Inv (s : State) : Prop where
  valid : s.cfg.Valid
  fits  : Fits s.cfg s.regs
  regs  : RegInv s.cfg s.regs

/-- Clause (l) of 10_state.md R38, which needs the sequencer: outside `P_RNG` no cycle is in progress. -/
def SeqInv (s : State) : Prop := s.regs.ph ≠ .rng → s.regs.rstate = .idle

/-- The counting law of 40_timebase.md R117, modulo 2^64 so that it outlives the wrap of `MONO`. -/
def CountLaw (s : State) : Prop :=
  s.lost = false →
    (s.regs.mono.toNat + s.regs.tcnt + (if s.regs.ovfPend = true then s.cfg.tmrRange else 0)) % 2 ^ 64 = s.counts % 2 ^ 64

/-- A line the composed block can take (44_arbiter_sequencer.md R193): a step of MAIN, HOST's control ports, or an
operation that TMR, IRQ or HOST performs. MAIN's operations, one by one, are not among them. -/
def systemLine (l : Line) : Bool :=
  match l with
  | .op w =>
    match decode w with
    | .ok i => decide (i.agents ≠ [.main])
    | .error _ => false
  | .main _ => true
  | .pins _ => true
  | .tick _ => true

/-- A safe state of the composed block: legal, (l) of R38 holds, and no script stands before the environment. -/
structure Running (s : State) : Prop where
  inv    : Inv s
  seq    : SeqInv s
  script : s.script = []

/-- The fairness of the timer (20_memory.md R72), for an environment's choices. -/
def Fair (f : Nat → EnvEvent) : Prop := ∀ n, ∃ m, n ≤ m ∧ f m = .count

/-- How many choices stand since the last forced count before the `n`-th, from the first on. -/
def sinceOf (gap : Nat → Nat) : Nat → Nat
  | 0 => 0
  | n + 1 => nextSince gap n (sinceOf gap n)

/-- The choices the model's environment makes, one after the other, for given free choices and gaps (log entry 22). -/
def envStream (free : Nat → EnvEvent) (gap : Nat → Nat) (n : Nat) : EnvEvent := chooseEvent free gap n (sinceOf gap n)

/-- A run from the state comes to a step of the timer, and is safe after it (20_memory.md R72). -/
def CountsAgain (s : State) : Prop :=
  ∃ n u t, Host.Core.run Sys2Proof.core n s = .next u ∧ step u = .next t ∧ t.counts = u.counts + 1 ∧ Running t

/-- What a step leaves alone beside the registers, the outputs and the ghosts: the parameters, the script, the
environment's counters. -/
structure SameOutside (s t : State) : Prop where
  cfg    : t.cfg = s.cfg
  script : t.script = s.script
  env    : t.env = s.env
  since  : t.since = s.since

/-- As `SameOutside`, and the ghosts too: every operation but `TB_COUNT` and `SYS_RESET`. -/
structure SameBeside (s t : State) : Prop extends SameOutside s t where
  counts : t.counts = s.counts
  lost   : t.lost = s.lost

/-- The four registers MAIN never writes (20_memory.md R68, 60_exceptions.md R209). -/
structure SameTimeBase (r r' : Regs) : Prop where
  tcnt    : r'.tcnt = r.tcnt
  mono    : r'.mono = r.mono
  ovfPend : r'.ovfPend = r.ovfPend
  ie      : r'.ie = r.ie

/-- The 19 registers only MAIN reads and writes (20_memory.md R68). -/
def SameMain (r r' : Regs) : Prop :=
  r' = { r with tcnt := r'.tcnt, mono := r'.mono, ovfPend := r'.ovfPend, ie := r'.ie }

/-- The clock of the wall: 3600 × `HH` + 60 × `MM` + `SS` (42_clock_fsm.md R142). -/
def secondsOfDay (r : Regs) : Nat := 3600 * r.hh.toNat + 60 * r.mm.toNat + r.ss.toNat

/-- The fields of the wall clock are in range (10_state.md R26). -/
def TimeInRange (r : Regs) : Prop := r.hh.toNat ≤ 23 ∧ r.mm.toNat ≤ 59 ∧ r.ss.toNat ≤ 59

/-- An operation applied `n` times. -/
def applyTimes (i : Instr) : Nat → State → Host.Outcome State Fault Refusal
  | 0, s => .next s
  | n + 1, s =>
    match exec i s with
    | .next t => applyTimes i n t
    | .fault e => .fault e
    | .refused e => .refused e

/-- The edges that a sequence of samples returns (41_button_decoder.md R132, R133). -/
def sampleEdges : State → List Nat → List ButtonId
  | _, [] => []
  | s, raw :: rest =>
    match exec (.btSample raw) s with
    | .next t => t.out.edge :: sampleEdges t rest
    | .fault _ => []
    | .refused _ => []

/-- How many readings lie in a button's band where the reading before did not (41_button_decoder.md R133); `held` says
whether the reading before the first one did. -/
def bandEntries (b : ButtonId) : Bool → List Nat → Nat
  | _, [] => 0
  | held, raw :: rest =>
    (if classify raw = b ∧ held = false then 1 else 0) + bandEntries b (decide (classify raw = b)) rest

/-- The latch of a button (10_state.md R25). -/
def latchOf (r : Regs) : ButtonId → Bool
  | .none => false
  | .mode => r.lMode
  | .inc => r.lInc
  | .dec => r.lDec

/-- After how many elapsed seconds without an edge a setting state reverts (42_clock_fsm.md R151). -/
def revertCount (c : Config) : Nat := if c.idleRevertStrict then Config.idleThreshold + 1 else Config.idleThreshold

/-- The transitions of `RSTATE` that an operation may make, `SYS_RESET` apart (43_ranging.md R171). -/
def cycleStep : Instr → RState → RState → Bool
  | .rgTrig, .idle, .trig => true
  | .rgTrigw, .trig, .trig => true
  | .rgTrigw, .trig, .waith => true
  | .rgWaith _, .waith, .waith => true
  | .rgWaith _, .waith, .waitl => true
  | .rgWaith _, .waith, .recov => true
  | .rgWaitl _, .waitl, .waitl => true
  | .rgWaitl _, .waitl, .recov => true
  | .rgRecov, .recov, .recov => true
  | .rgRecov, .recov, .idle => true
  | .rgTrig, _, _ => false
  | .rgTrigw, _, _ => false
  | .rgWaith _, _, _ => false
  | .rgWaitl _, _, _ => false
  | .rgRecov, _, _ => false
  | _, a, b => decide (a = b)

end Sys2Proof.Machine
end

