-- ==== Sys2Proof/Certificates/Slice0/Obligations.lean ====
section
/-! DEFINITION. The statements for the provers, each about the machine of Sys2Proof/Machine in the terms of Safety.lean. -/

open Sys2Proof Sys2Proof.Machine

/-! ### Operation words (spec/30_encoding.md) -/

/-- Every well-formed operation is what its own word decodes to, with every operand its encoding admits (R80 to R84). -/
def Obligations.EveryOperationDecodesFromItsWord : Prop :=
  ∀ i : Instr, i.wellFormed = true → decode (encode i) = .ok i

/-- The other direction: a word that decodes is the word of the operation it decodes to, and the operand is in range (R80
to R84, R93). -/
def Obligations.EveryDecodedWordIsItsOperationsWord : Prop :=
  ∀ (w : Word) (i : Instr), decode w = .ok i → encode i = w ∧ i.wellFormed = true

/-- The decoder, written by families and formats (R80 to R83), reads an operation of a row's mnemonic exactly from the
words that select the row by its mask and match (R84). -/
def Obligations.WordSelectsTheTableRow : Prop :=
  ∀ (w : Word) (row : OpRow), row ∈ opcodeTable →
    (row.selects w = true ↔ ∃ i, decode w = .ok i ∧ i.mnemonic = row.mnemonic)

/-- Reserved and illegal words (R85): a word decodes to an error exactly where it matches no row of R84; that covers the
unassigned families, the unassigned `sub` of family 7, and a bit that format N or L requires to be zero; and the machine
refuses such a word. -/
def Obligations.UnlistedWordIsRefused : Prop :=
  (∀ w : Word, (∃ e, decode w = .error e) ↔ ∀ row ∈ opcodeTable, row.selects w = false) ∧
  (∀ w : Word, famField w = 5 ∨ famField w = 6 → ∃ e, decode w = .error e) ∧
  (∀ w : Word, famField w = 7 → subField w ≠ 7 → ∃ e, decode w = .error e) ∧
  (∀ w : Word, famField w ≠ 1 → (argField w).extractLsb' 1 9 ≠ 0 → ∃ e, decode w = .error e) ∧
  (∀ w : Word, famField w ≠ 1 → opField w ≠ 26 → opField w ≠ 27 → opField w ≠ 32 → argField w ≠ 0 →
    ∃ e, decode w = .error e) ∧
  (∀ (s : State) (w : Word) (rest : List Line), s.cfg.Valid → interruptUrgent s.regs = false → s.script = .op w :: rest →
    (∀ row ∈ opcodeTable, row.selects w = false) → ∃ e, step s = .refused (.invalidWord w e))

/-- Some words of 95_test_vectors.md 2.7: one of each family decodes to its operation, and two decode to an error. That the
spec calls those two invalid is its word; the names of the two errors are the model's choice (log entry 10). -/
def Obligations.WrittenWordsDecode : Prop :=
  decode 0x1400 = .ok .tbIrqon ∧ decode 0x218B = .ok (.btSample 395) ∧ decode 0x4C00 = .ok .ckDec ∧
    decode 0x6801 = .ok (.rgWaith true) ∧ decode 0x8000 = .ok (.arSel false) ∧ decode 0xFC00 = .ok .sysReset ∧
    decode 0x6802 = .error (.operandBits 2) ∧ decode 0x1800 = .error (.unassignedOp 6)

/-! ### Steps of an execution (spec/20_memory.md R66 to R69, 30_encoding.md R91) -/

/-- A step runs the decoded operation: where the next line is a word that decodes to `i`, and no urgent interrupt stands
before it, the step is `exec i` on the state with that line taken off the script, and nothing is added around it. That
State holds the script is the model's choice (log entry 5). That a word `TB_OVF` or `SYS_RESET` runs while the interrupt is
urgent is the model's reading of 60_exceptions.md R205, which excepts only `rst` = 1 (log entries 7 and 8). -/
def Obligations.StepRunsTheDecodedOperation : Prop :=
  ∀ (s : State) (w : Word) (i : Instr) (rest : List Line), s.cfg.Valid → s.script = .op w :: rest → decode w = .ok i →
    (interruptUrgent s.regs = false ∨ i = .tbOvf ∨ i = .sysReset) → step s = exec i { s with script := rest }

/-- The other lines: a step of MAIN; a clock edge at the control ports, where `rst` wins over `ie_clr` and `ie_clr` over
`ie_set` and with none of them no register changes; a count of a `TB_TICK`, with a `TB_OVF` before the counts that are left
where it left the interrupt urgent (30_encoding.md R92); and with an empty script the environment's choice. The script, the
environment, the order of the ports and the line of a `TB_TICK` are the model's choices (log entries 5, 6, 7, 16 and 22). -/
def Obligations.StepRunsMainPinsAndEnvironment : Prop :=
  ∀ s : State, s.cfg.Valid → interruptUrgent s.regs = false →
    (∀ inp rest, s.script = .main inp :: rest → step s = mainStep inp { s with script := rest }) ∧
    (∀ p rest, s.script = .pins p :: rest →
      (p.rst = true → step s = exec .sysReset { s with script := rest }) ∧
      (p.rst = false → p.ieClr = true → step s = exec .tbIrqoff { s with script := rest }) ∧
      (p.rst = false → p.ieClr = false → p.ieSet = true → step s = exec .tbIrqon { s with script := rest }) ∧
      (p.rst = false → p.ieClr = false → p.ieSet = false → step s = .next { s with script := rest, out := quiet })) ∧
    (∀ more rest, s.script = .tick more :: rest → ∃ u, exec .tbCount s = .next u ∧
      (interruptUrgent u.regs = true → step s = .next { u with script := .op 0x0400 :: (tickLines more ++ rest) }) ∧
      (interruptUrgent u.regs = false → step s = .next { u with script := tickLines more ++ rest })) ∧
    (s.script = [] → step s = runLine (eventLine (chooseEvent Config.freeEvent Config.freeGap s.env s.since)) (takeLine s))

/-- Taking the interrupt is performing `TB_OVF`: `MONO` grows by the timer's range modulo 2^64, the request is cleared,
and nothing else is saved, read or changed (60_exceptions.md R206). While it is enabled no operation of TMR, MAIN or HOST
but a reset comes before it (R205): a script's next line must be `TB_OVF` or a reset, any other has no step (30_encoding.md
R91); where there is no script it is the next step, unless the environment resets. The refusal, the script and the reset as
a word are the model's form of R205 (log entries 5, 7 and 8). -/
def Obligations.UrgentInterruptIsTakenFirst : Prop :=
  ∀ s : State, s.cfg.Valid → s.regs.ovfPend = true → s.regs.ie = true →
    (∃ t, exec .tbOvf s = .next t ∧ t.regs = { s.regs with mono := t.regs.mono, ovfPend := false } ∧
      t.regs.mono.toNat = (s.regs.mono.toNat + s.cfg.tmrRange) % 2 ^ 64 ∧ t.out = quiet ∧ SameBeside s t) ∧
    (s.script = [] → step s = exec .tbOvf s ∨ step s = exec .sysReset (takeLine s)) ∧
    (∀ rest w, s.script = .op w :: rest → decode w = .ok .tbOvf → step s = exec .tbOvf { s with script := rest }) ∧
    (∀ rest p, s.script = .pins p :: rest → p.rst = true → step s = exec .sysReset { s with script := rest }) ∧
    (∀ rest w i, s.script = .op w :: rest → decode w = .ok i → i ≠ .tbOvf → i ≠ .sysReset →
      step s = .refused (.overflowFirst (.op w))) ∧
    (∀ rest p, s.script = .pins p :: rest → p.rst = false → step s = .refused (.overflowFirst (.pins p))) ∧
    (∀ rest inp, s.script = .main inp :: rest → step s = .refused (.overflowFirst (.main inp))) ∧
    (∀ rest more, s.script = .tick more :: rest → step s = .refused (.overflowFirst (.tick more)))

/-- The timer is never starved (20_memory.md R72): from every safe state of the composed block, whatever the environment
chooses, a run comes to a `TB_COUNT` and is safe after it, so it comes to one again and again. That the environment is bound
by a free number of choices before each count is the model's form of the assumption (log entry 22). -/
def Obligations.TimerIsNeverStarved : Prop :=
  ∀ s : State, Running s → CountsAgain s

/-- The environment of the model is exactly the fair one (20_memory.md R69 (d), R72): a sequence of choices is fair to the
timer if and only if it is what some free choices and some gaps between forced counts give. The gaps are the model's form
(log entry 22). -/
def Obligations.EnvironmentIsExactlyTheFairOne : Prop :=
  ∀ e : Nat → EnvEvent, Fair e ↔ ∃ (free : Nat → EnvEvent) (gap : Nat → Nat), ∀ n, envStream free gap n = e n

/-- A script is applied from its first line to its last and nothing after it (30_encoding.md R91): where every line has its
step, the run ends with no line left, it is those steps and no others, and more fuel would not change it. The script in
State and its fuel are the model's form (log entry 5). -/
def Obligations.ScriptRunsToItsEndAndNoFurther : Prop :=
  ∀ s : State,
    (∀ t, runScript s = .next t → t.script = [] ∧ ∃ n, n ≤ scriptSteps s.script ∧ Host.Core.run Sys2Proof.core n s = .next t) ∧
    (∀ fuel, scriptSteps s.script ≤ fuel → runLines fuel s = runScript s)

/-- A disabled operation has no step (44_arbiter_sequencer.md R192) and an enabled one always answers a next state
(60_exceptions.md R200), for every operation of the table; the enabling conditions are those of the operation rules. That
having no step is a refusal is the model's choice (log entry 9). -/
def Obligations.ExactlyTheEnabledOperationsRun : Prop :=
  ∀ (i : Instr) (s : State),
    ((∃ t, exec i s = .next t) ↔
      ((i = .tbOvf → s.regs.ovfPend = true ∧ s.regs.ie = true) ∧ (i = .rgTrig → s.regs.rstate = .idle) ∧
        (i = .rgTrigw → s.regs.rstate = .trig) ∧ (∀ l, i = .rgWaith l → s.regs.rstate = .waith) ∧
        (∀ l, i = .rgWaitl l → s.regs.rstate = .waitl) ∧ (i = .rgRecov → s.regs.rstate = .recov) ∧
        (∀ l, i = .arSel l → s.regs.rstate = .idle))) ∧
    ((∃ t, exec i s = .next t) ∨ exec i s = .refused (.notEnabled i))

/-! ### Time Base (spec/40_timebase.md) -/

/-- `TB_COUNT` (R110): the timer counts, and at its last value wraps and requests the interrupt; the ghosts (log entry 14)
record the count, and a wrap that finds the request already set. -/
def Obligations.TimerCountsAndWraps : Prop :=
  ∀ s : State, s.regs.tcnt < s.cfg.tmrRange →
    ∃ t, exec .tbCount s = .next t ∧ SameOutside s t ∧ t.out = quiet ∧ t.counts = s.counts + 1 ∧
      (s.regs.tcnt = s.cfg.tmrRange - 1 → t.regs = { s.regs with tcnt := 0, ovfPend := true }) ∧
      (s.regs.tcnt ≠ s.cfg.tmrRange - 1 → t.regs = { s.regs with tcnt := s.regs.tcnt + 1 }) ∧
      (t.lost = true ↔ s.lost = true ∨ (s.regs.tcnt = s.cfg.tmrRange - 1 ∧ s.regs.ovfPend = true))

/-- `TB_OVF` (R111): where it is enabled it adds the timer's range to `MONO` modulo 2^64 and clears the request, and
elsewhere it has no step. Where it is enabled every step is this one or a reset (60_exceptions.md R205); that a step of the
model is so, with a script or without, is its form of R205 (log entries 7 and 8). -/
def Obligations.OverflowHandlerAddsTheRange : Prop :=
  (∀ s : State, s.regs.ovfPend = true → s.regs.ie = true →
    ∃ t, exec .tbOvf s = .next t ∧ SameBeside s t ∧ t.out = quiet ∧
      t.regs = { s.regs with mono := t.regs.mono, ovfPend := false } ∧
      t.regs.mono.toNat = (s.regs.mono.toNat + s.cfg.tmrRange) % 2 ^ 64 ∧
      ∀ u, step s = .next u → u.regs = t.regs ∨ u.regs = Regs.reset) ∧
  (∀ s : State, s.regs.ovfPend = false ∨ s.regs.ie = false → ∀ t, exec .tbOvf s ≠ .next t)

/-- `TB_IRQOFF` and `TB_IRQON` (R112, R113) write `IE` and nothing else; a pending overflow stays pending, and the second
makes its handler enabled, which is then the next step, a reset apart (60_exceptions.md R205). That a step of the model is
so, with a script or without, is its form of R205 (log entries 7 and 8). -/
def Obligations.InterruptEnableIsClearedAndSet : Prop :=
  ∀ s : State,
    (∃ t, exec .tbIrqoff s = .next t ∧ SameBeside s t ∧ t.out = quiet ∧ t.regs = { s.regs with ie := false } ∧
      interruptUrgent t.regs = false) ∧
    (∃ t, exec .tbIrqon s = .next t ∧ SameBeside s t ∧ t.out = quiet ∧ t.regs = { s.regs with ie := true } ∧
      (interruptUrgent t.regs = true ↔ s.regs.ovfPend = true) ∧
      (s.regs.ovfPend = true → ∀ u, step t = .next u → u.regs = takeOverflow t.cfg t.regs ∨ u.regs = Regs.reset))

/-- `TB_RDUS` and `TB_RDMS` (R114, R115) return the time and write no register; the ports show the same values. -/
def Obligations.ReadersReturnTheTime : Prop :=
  ∀ s : State,
    (∃ t v, exec .tbRdus s = .next t ∧ SameBeside s t ∧ t.regs = s.regs ∧ t.out = { quiet with read := some v } ∧
      v.toNat = (s.regs.mono.toNat + s.regs.tcnt) * s.cfg.usNum / s.cfg.usDen % 2 ^ 64 ∧ s.ports.nowUs = v) ∧
    (∃ t v, exec .tbRdms s = .next t ∧ SameBeside s t ∧ t.regs = s.regs ∧ t.out = { quiet with read := some v } ∧
      v.toNat = s.ports.nowUs.toNat / 1000 ∧ v.toNat ≤ 18446744073709551 ∧ s.ports.nowMs = v)

/-- Elapsed time (R116): now minus mark modulo 2^64, and so the true time between two readings of a clock that wraps at
2^64, whether or not it wrapped between them. -/
def Obligations.ElapsedTimeIsForwardAcrossAWrap : Prop :=
  (∀ now mark : Time, (elapsed now mark).toNat = (now.toNat + 2 ^ 64 - mark.toNat) % 2 ^ 64) ∧
  (∀ m d : Nat, d < 2 ^ 64 → (elapsed (BitVec.ofNat 64 (m + d)) (BitVec.ofNat 64 m)).toNat = d)

/-- Every step keeps the counting law (R117): while no overflow has been lost, `MONO` + `TCNT` and a pending overflow
account for every count since reset, modulo 2^64. -/
def Obligations.EveryStepKeepsTheCountingLaw : Prop :=
  ∀ s t : State, Inv s → CountLaw s → step s = .next t → CountLaw t

/-- While the counting law holds, nothing is pending and fewer than 2^64 counts have been made, `MONO` + `TCNT` is their
number, and `now_us()` the time since reset rounded down to a microsecond (R117). -/
def Obligations.ReadingIsTheTrueTime : Prop :=
  ∀ s : State, Inv s → CountLaw s → s.lost = false → s.regs.ovfPend = false → s.counts < 2 ^ 64 →
    s.regs.mono.toNat + s.regs.tcnt = s.counts ∧
      (nowUs s.cfg s.regs).toNat = s.counts * s.cfg.usNum / s.cfg.usDen % 2 ^ 64

/-- With an integer quantum the readings are consistent past the wrap of `MONO` (R119): for any number of counts,
`now_us()` is that number times the quantum modulo 2^64. -/
def Obligations.IntegerQuantumReadsThroughEveryWrap : Prop :=
  ∀ s : State, Inv s → CountLaw s → s.lost = false → s.regs.ovfPend = false → s.cfg.usDen = 1 →
    (nowUs s.cfg s.regs).toNat = s.counts * s.cfg.usNum % 2 ^ 64

/-- Monotonicity (R118): in one execution, a later reading is not smaller than an earlier one, if nothing is pending at
either, no overflow was lost, no reset fell between and `now_us()` has not wrapped. -/
def Obligations.ReadingsNeverGoBack : Prop :=
  ∀ (n : Nat) (s t : State), Inv s → CountLaw s → Host.Core.run Sys2Proof.core n s = .next t →
    s.lost = false → t.lost = false → s.regs.ovfPend = false → t.regs.ovfPend = false → s.counts ≤ t.counts →
    t.counts < 2 ^ 64 → t.counts * t.cfg.usNum / t.cfg.usDen < 2 ^ 64 →
    (nowUs s.cfg s.regs).toNat ≤ (nowUs t.cfg t.regs).toNat

/-- `TB_TICK n` (30_encoding.md R92): `n` counts, each that leaves the overflow pending followed by its `TB_OVF`, move the
time base on by exactly `n` counts and change nothing else; nothing is left pending, so a `TB_OVF` written after it has no
step. The script in State and the line of a `TB_TICK` are the model's form (log entries 5 and 7). -/
def Obligations.TicksMoveTheTimeBaseByTheirNumber : Prop :=
  ∀ (n : Nat) (s : State), Inv s → s.script = [] → s.regs.ie = true → s.regs.ovfPend = false →
    (∃ t, runScript (s.load (Pseudo.tick n).expand) = .next t ∧ t.script = [] ∧ SameOutside s t ∧
      t.regs = { s.regs with tcnt := t.regs.tcnt, mono := t.regs.mono } ∧
      (t.regs.mono.toNat + t.regs.tcnt) % 2 ^ 64 = (s.regs.mono.toNat + s.regs.tcnt + n) % 2 ^ 64 ∧
      t.counts = s.counts + n ∧ t.lost = s.lost) ∧
    runScript (s.load ((Pseudo.tick n).expand ++ (Pseudo.one .tbOvf).expand)) = .refused (.notEnabled .tbOvf)

/-- The guarded accessor `TB_RDUS_G` (30_encoding.md R92, 20_memory.md R67): its read returns the time of the moment, the
handler being suppressed, and after it the interrupt is enabled. The script in State is the model's form (log entry 5). -/
def Obligations.GuardedReadReturnsTheTime : Prop :=
  ∀ s : State, s.cfg.Valid → interruptUrgent s.regs = false →
    (∃ t, Host.Core.run Sys2Proof.core 2 (s.load Pseudo.rdusG.expand) = .next t ∧ t.regs = { s.regs with ie := false } ∧
      t.out.read = some (nowUs s.cfg s.regs)) ∧
    (∃ t, Host.Core.run Sys2Proof.core 3 (s.load Pseudo.rdusG.expand) = .next t ∧ t.regs = { s.regs with ie := true } ∧
      t.script = s.script)

/-- An overflow is lost only at a wrap that finds the request set, and never while the interrupt is enabled, because the
handler is urgent (60_exceptions.md R205, R208). -/
def Obligations.OverflowIsLostOnlyWithInterruptsOff : Prop :=
  ∀ s t : State, step s = .next t → s.lost = false → t.lost = true →
    s.regs.ie = false ∧ s.regs.ovfPend = true ∧ s.regs.tcnt = s.cfg.tmrRange - 1

/-- While the interrupt is disabled `MONO` does not change, whatever is performed, a reset apart (20_memory.md R70). -/
def Obligations.MonoStandsStillWhileInterruptsAreOff : Prop :=
  ∀ s t : State, s.regs.ie = false → step s = .next t → t.regs.mono = s.regs.mono ∨ t.regs = Regs.reset

/-! ### Analog Button Decoder (spec/41_button_decoder.md) -/

/-- The classification over the whole 10-bit range, row by row, and how many mean no button (30_encoding.md R87). -/
def Obligations.BandTableClassifiesEveryReading : Prop :=
  (∀ raw : Nat, raw < 1024 →
    (raw ≤ 129 → classify raw = .none) ∧ (130 ≤ raw ∧ raw ≤ 199 → classify raw = .dec) ∧
    (200 ≤ raw ∧ raw ≤ 209 → classify raw = .none) ∧ (210 ≤ raw ∧ raw ≤ 279 → classify raw = .inc) ∧
    (280 ≤ raw ∧ raw ≤ 339 → classify raw = .none) ∧ (340 ≤ raw ∧ raw ≤ 449 → classify raw = .mode) ∧
    (450 ≤ raw → classify raw = .none)) ∧
  ((List.range 1024).filter (fun raw => classify raw = .dec)).length = 70 ∧
  ((List.range 1024).filter (fun raw => classify raw = .inc)).length = 70 ∧
  ((List.range 1024).filter (fun raw => classify raw = .mode)).length = 110 ∧
  ((List.range 1024).filter (fun raw => classify raw = .none)).length = 774

/-- `BT_SAMPLE` (R132): every latch follows its band, the identity and the edge are returned, and the edge is a button
exactly where the reading lies in its band and its latch was clear; no other register changes. -/
def Obligations.SampleLatchesBandsAndFiresEdges : Prop :=
  ∀ (raw : Nat) (s : State),
    ∃ t edge, exec (.btSample raw) s = .next t ∧ SameBeside s t ∧
      t.regs = { s.regs with
        lMode := decide (340 ≤ raw ∧ raw < 450), lInc := decide (210 ≤ raw ∧ raw < 280),
        lDec := decide (130 ≤ raw ∧ raw < 200) } ∧
      t.out = { quiet with button := some (classify raw, edge) } ∧
      (∀ b, b ≠ .none → (edge = b ↔ classify raw = b ∧ latchOf s.regs b = false))

/-- One action per press (R133): over any sequence of samples, a button's edge is returned as often as its band is
entered, the latch before the first sample telling whether the band was held. -/
def Obligations.OneActionPerPress : Prop :=
  ∀ (raws : List Nat) (s : State) (b : ButtonId), b ≠ .none →
    (sampleEdges s raws).count b = bandEntries b (latchOf s.regs b) raws

/-! ### Clock State Machine (spec/42_clock_fsm.md) -/

/-- `CK_SEC` in Normal (R142): the time of day grows by one second modulo a day, every field stays in range, and nothing
but `HH`, `MM` and `SS` changes. -/
def Obligations.SecondAdvancesTheTimeOfDay : Prop :=
  ∀ s : State, s.regs.clkmode = .normal → TimeInRange s.regs →
    ∃ t, exec .ckSec s = .next t ∧ SameBeside s t ∧ t.out = quiet ∧
      t.regs = { s.regs with hh := t.regs.hh, mm := t.regs.mm, ss := t.regs.ss } ∧
      secondsOfDay t.regs = (secondsOfDay s.regs + 1) % 86400 ∧ TimeInRange t.regs

/-- `CK_SEC` in a setting state (R141): the idle count grows by one, or the state reverts to Normal with the count at 0;
the revert comes at the sixth count where `IDLE_REVERT_STRICT` holds, at the fifth where it does not; the time stands. -/
def Obligations.SecondInASettingStateCountsIdle : Prop :=
  ∀ s : State, s.regs.clkmode ≠ .normal → 3 ≤ s.cfg.idleW →
    ∃ t, exec .ckSec s = .next t ∧ SameBeside s t ∧ t.out = quiet ∧
      (s.cfg.idleRevertStrict = true → s.regs.idle ≤ 4 → t.regs = { s.regs with idle := s.regs.idle + 1 }) ∧
      (s.cfg.idleRevertStrict = true → 5 ≤ s.regs.idle → t.regs = { s.regs with clkmode := .normal, idle := 0 }) ∧
      (s.cfg.idleRevertStrict = false → s.regs.idle ≤ 3 → t.regs = { s.regs with idle := s.regs.idle + 1 }) ∧
      (s.cfg.idleRevertStrict = false → 4 ≤ s.regs.idle → t.regs = { s.regs with clkmode := .normal, idle := 0 })

/-- Any number of seconds in Normal (R142): the time of day grows by it modulo a day, and whole days bring every register
back (95_test_vectors.md S1). -/
def Obligations.SecondsAddUpModuloADay : Prop :=
  ∀ (n : Nat) (s : State), s.regs.clkmode = .normal → TimeInRange s.regs →
    ∃ t, applyTimes .ckSec n s = .next t ∧ TimeInRange t.regs ∧
      t.regs = { s.regs with hh := t.regs.hh, mm := t.regs.mm, ss := t.regs.ss } ∧
      secondsOfDay t.regs = (secondsOfDay s.regs + n) % 86400 ∧ (86400 ∣ n → t.regs = s.regs)

/-- The idle-timeout law (R151): from a setting state with `IDLE` = 0, a run of seconds with no edge between them only
counts until the sixth (the fifth where `IDLE_REVERT_STRICT` is false), which reverts to Normal; the time stands. -/
def Obligations.IdleTimeoutRevertsToNormal : Prop :=
  ∀ s : State, s.regs.clkmode ≠ .normal → s.regs.idle = 0 → 3 ≤ s.cfg.idleW →
    (∀ n, n < revertCount s.cfg → ∃ t, applyTimes .ckSec n s = .next t ∧ t.regs = { s.regs with idle := n }) ∧
    (∃ t, applyTimes .ckSec (revertCount s.cfg) s = .next t ∧ t.regs = { s.regs with clkmode := .normal }) ∧
    (s.cfg.idleRevertStrict = true → revertCount s.cfg = 6) ∧ (s.cfg.idleRevertStrict = false → revertCount s.cfg = 5)

/-- `CK_MODE` (R143): Normal, SettingHours, SettingMinutes and back, under the codes one more modulo 3, `IDLE` zeroed,
nothing else changed; three of them return to the mode they started from. -/
def Obligations.ModeButtonCyclesTheMode : Prop :=
  ∀ s : State,
    (∃ t, exec .ckMode s = .next t ∧ SameBeside s t ∧ t.out = quiet ∧
      t.regs = { s.regs with clkmode := t.regs.clkmode, idle := 0 } ∧
      (s.regs.clkmode = .normal → t.regs.clkmode = .settingHours) ∧
      (s.regs.clkmode = .settingHours → t.regs.clkmode = .settingMinutes) ∧
      (s.regs.clkmode = .settingMinutes → t.regs.clkmode = .normal) ∧
      t.regs.clkmode.code.toNat = (s.regs.clkmode.code.toNat + 1) % 3) ∧
    (∃ t, applyTimes .ckMode 3 s = .next t ∧ t.regs = { s.regs with idle := 0 })

/-- `CK_INC` (R144): the hour or the minute one forward with wrap and no carry, `IDLE` zeroed; nothing in Normal. -/
def Obligations.IncrementSetsHoursOrMinutes : Prop :=
  ∀ s : State, ∃ t, exec .ckInc s = .next t ∧ SameBeside s t ∧ t.out = quiet ∧
    (s.regs.clkmode = .normal → t.regs = s.regs) ∧
    (s.regs.clkmode = .settingHours →
      t.regs = { s.regs with hh := t.regs.hh, idle := 0 } ∧ t.regs.hh.toNat = (s.regs.hh.toNat + 1) % 24) ∧
    (s.regs.clkmode = .settingMinutes →
      t.regs = { s.regs with mm := t.regs.mm, idle := 0 } ∧ t.regs.mm.toNat = (s.regs.mm.toNat + 1) % 60)

/-- `CK_DEC` (R145): the hour or the minute one back, 0 going to 23 or 59, no borrow, `IDLE` zeroed; nothing in Normal. -/
def Obligations.DecrementSetsHoursOrMinutes : Prop :=
  ∀ s : State, ∃ t, exec .ckDec s = .next t ∧ SameBeside s t ∧ t.out = quiet ∧
    (s.regs.clkmode = .normal → t.regs = s.regs) ∧
    (s.regs.clkmode = .settingHours →
      t.regs = { s.regs with hh := t.regs.hh, idle := 0 } ∧ t.regs.hh.toNat = (s.regs.hh.toNat + 23) % 24) ∧
    (s.regs.clkmode = .settingMinutes →
      t.regs = { s.regs with mm := t.regs.mm, idle := 0 } ∧ t.regs.mm.toNat = (s.regs.mm.toNat + 59) % 60)

/-- An increment and a decrement, in either order, undo each other on a time in range (R144, R145): only `IDLE` may
differ. -/
def Obligations.DecrementUndoesIncrement : Prop :=
  ∀ s : State, TimeInRange s.regs →
    (∃ t u, exec .ckInc s = .next t ∧ exec .ckDec t = .next u ∧ u.regs = { s.regs with idle := u.regs.idle }) ∧
    (∃ t u, exec .ckDec s = .next t ∧ exec .ckInc t = .next u ∧ u.regs = { s.regs with idle := u.regs.idle })

/-- `CK_SECCHK` (R147): where a period has elapsed since the mark, the mark moves by one period or to now, the heartbeat
pulses and one `CK_SEC` is applied in the same step; otherwise no register changes. -/
def Obligations.SecondCheckAppliesOneSecond : Prop :=
  ∀ s : State, ∃ t u, exec .ckSecchk s = .next t ∧ exec .ckSec s = .next u ∧ SameBeside s t ∧
    (s.cfg.secPeriodMs ≤ (elapsed (nowMs s.cfg s.regs) s.regs.secMark).toNat →
      t.regs = { u.regs with secMark := t.regs.secMark } ∧ t.out = { quiet with hbStb := true } ∧
      (s.cfg.secRemark = .add → t.regs.secMark.toNat = (s.regs.secMark.toNat + s.cfg.secPeriodMs) % 2 ^ 64) ∧
      (s.cfg.secRemark = .now → t.regs.secMark = nowMs s.cfg s.regs)) ∧
    ((elapsed (nowMs s.cfg s.regs) s.regs.secMark).toNat < s.cfg.secPeriodMs → t.regs = s.regs ∧ t.out = quiet)

/-! ### Ranging Engine (spec/43_ranging.md) -/

/-- `RG_TRIG` (R161): raises the trigger, drops the status line, marks the time; only from `R_IDLE`. -/
def Obligations.TriggerStartsACycle : Prop :=
  ∀ s : State,
    (s.regs.rstate = .idle → ∃ t, exec .rgTrig s = .next t ∧ SameBeside s t ∧ t.out = quiet ∧
      t.regs = { s.regs with status := false, trig := true, tMark := nowUs s.cfg s.regs, rstate := .trig }) ∧
    (s.regs.rstate ≠ .idle → ∀ t, exec .rgTrig s ≠ .next t)

/-- `RG_TRIGW` (R162): drops the trigger once the pulse has lasted its time; only in `R_TRIG`. -/
def Obligations.TriggerPulseEndsAfterItsTime : Prop :=
  ∀ s : State,
    (s.regs.rstate = .trig → ∃ t, exec .rgTrigw s = .next t ∧ SameBeside s t ∧ t.out = quiet ∧
      (s.cfg.trigPulseUs ≤ (elapsed (nowUs s.cfg s.regs) s.regs.tMark).toNat →
        t.regs = { s.regs with trig := false, tMark := nowUs s.cfg s.regs, rstate := .waith }) ∧
      ((elapsed (nowUs s.cfg s.regs) s.regs.tMark).toNat < s.cfg.trigPulseUs → t.regs = s.regs)) ∧
    (s.regs.rstate ≠ .trig → ∀ t, exec .rgTrigw s ≠ .next t)

/-- `RG_WAITH` (R163): a timeout, tested first, ends the measurement without a sample whatever the level; else a high
level records the rise; else nothing changes; only in `R_WAITH`. -/
def Obligations.RisePollTimesOutRecordsOrWaits : Prop :=
  ∀ (s : State) (lvl : Bool),
    (s.regs.rstate = .waith → ∃ t, exec (.rgWaith lvl) s = .next t ∧ SameBeside s t ∧ t.out = quiet ∧
      (1000000 ≤ (elapsed (nowUs s.cfg s.regs) s.regs.tMark).toNat →
        t.regs = { s.regs with rres := .noEcho, tMark := nowUs s.cfg s.regs, rstate := .recov }) ∧
      ((elapsed (nowUs s.cfg s.regs) s.regs.tMark).toNat < 1000000 → lvl = true →
        t.regs = { s.regs with tRise := nowUs s.cfg s.regs, rstate := .waitl }) ∧
      ((elapsed (nowUs s.cfg s.regs) s.regs.tMark).toNat < 1000000 → lvl = false → t.regs = s.regs)) ∧
    (s.regs.rstate ≠ .waith → ∀ t, exec (.rgWaith lvl) s ≠ .next t)

/-- `RG_WAITL` (R164): a timeout, tested first, ends the measurement without a sample; else a low level converts the
width, writes the sample and pulses `sample_stb`; else nothing changes; only in `R_WAITL`. -/
def Obligations.FallPollTimesOutSamplesOrWaits : Prop :=
  ∀ (s : State) (lvl : Bool),
    (s.regs.rstate = .waitl → ∃ t, exec (.rgWaitl lvl) s = .next t ∧ SameBeside s t ∧
      (s.cfg.echoLowTimeoutUs ≤ (elapsed (nowUs s.cfg s.regs) s.regs.tRise).toNat →
        t.regs = { s.regs with rres := .echoStuck, tMark := nowUs s.cfg s.regs, rstate := .recov } ∧ t.out = quiet) ∧
      ((elapsed (nowUs s.cfg s.regs) s.regs.tRise).toNat < s.cfg.echoLowTimeoutUs → lvl = false →
        t.regs = { s.regs with
          dist := (elapsed (nowUs s.cfg s.regs) s.regs.tRise).toNat * 10 / 582 % 2 ^ s.cfg.distW, distValid := true,
          rres := .ok, tMark := nowUs s.cfg s.regs, rstate := .recov } ∧ t.out = { quiet with sampleStb := true }) ∧
      ((elapsed (nowUs s.cfg s.regs) s.regs.tRise).toNat < s.cfg.echoLowTimeoutUs → lvl = true →
        t.regs = s.regs ∧ t.out = quiet)) ∧
    (s.regs.rstate ≠ .waitl → ∀ t, exec (.rgWaitl lvl) s ≠ .next t)

/-- `RG_RECOV` (R167): ends the cycle and raises the status line once the recovery delay has passed; only in `R_RECOV`. -/
def Obligations.RecoveryEndsAfterItsDelay : Prop :=
  ∀ s : State,
    (s.regs.rstate = .recov → ∃ t, exec .rgRecov s = .next t ∧ SameBeside s t ∧ t.out = quiet ∧
      (250000 ≤ (elapsed (nowUs s.cfg s.regs) s.regs.tMark).toNat →
        t.regs = { s.regs with status := true, rstate := .idle }) ∧
      ((elapsed (nowUs s.cfg s.regs) s.regs.tMark).toNat < 250000 → t.regs = s.regs)) ∧
    (s.regs.rstate ≠ .recov → ∀ t, exec .rgRecov s ≠ .next t)

/-- The converter (R165): the two reduced forms of its formula agree; in a configuration no width below the timeout is
reduced, so the result is the width divided by 58.2 rounded down, and it never falls as the width grows. -/
def Obligations.DistanceIsTheWidthDividedRoundedDown : Prop :=
  ∀ (c : Config) (w : Nat),
    distOfWidth c w = w * 10 / 582 % 2 ^ c.distW ∧ distOfWidth c w = w * 5 / 291 % 2 ^ c.distW ∧
    (c.Valid → w < c.echoLowTimeoutUs →
      582 * distOfWidth c w ≤ 10 * w ∧ 10 * w < 582 * (distOfWidth c w + 1) ∧
      ∀ v, v ≤ w → distOfWidth c v ≤ distOfWidth c w) ∧
    distOfWidth Config.ref 999999 = 17182 ∧ distOfWidth Config.ref 581 = 9 ∧ distOfWidth Config.ref 582 = 10

/-- A sample exactly where a fall is seen in time (R166, R168): `sample_stb` pulses only in such an `RG_WAITL`, with the
width below the timeout and the distance its conversion; every other operation but a reset leaves `DIST` and `DIST_VALID`
as they were. -/
def Obligations.SampleOnlyFromAFallInTime : Prop :=
  ∀ (i : Instr) (s t : State), s.cfg.Valid → exec i s = .next t →
    (t.out.sampleStb = true → i = .rgWaitl false ∧ s.regs.rstate = .waitl ∧ echoWidth s.cfg s.regs < s.cfg.echoLowTimeoutUs ∧
      t.regs.dist = echoWidth s.cfg s.regs * 10 / 582 ∧ t.regs.distValid = true ∧ t.regs.rres = .ok) ∧
    (i = .rgWaitl false → echoWidth s.cfg s.regs < s.cfg.echoLowTimeoutUs → t.out.sampleStb = true) ∧
    (t.out.sampleStb = false → i ≠ .sysReset → t.regs.dist = s.regs.dist ∧ t.regs.distValid = s.regs.distValid)

/-- `RSTATE` moves only as the transition table of R171 says: in a step of an operation, a reset apart, the pair of its
values is one that the table lists for that operation. -/
def Obligations.MeasurementCycleFollowsItsTable : Prop :=
  ∀ (i : Instr) (s t : State), exec i s = .next t → i ≠ .sysReset → cycleStep i s.regs.rstate t.regs.rstate = true

/-! ### Mode Arbiter, sequencer and reset (spec/44_arbiter_sequencer.md) -/

/-- `AR_SEL` (R180): the level that means reverse gear selects Parking and raises the status line; the other selects Clock
and leaves it; the previous mode is not read; only in `R_IDLE`. -/
def Obligations.ArbiterSelectsTheModeOfTheFrame : Prop :=
  ∀ (s : State) (lvl : Bool),
    (s.regs.rstate = .idle → ∃ t, exec (.arSel lvl) s = .next t ∧ SameBeside s t ∧ t.out = quiet ∧
      (lvl = s.cfg.revActive → t.regs = { s.regs with mainmode := .parking, status := true }) ∧
      (lvl ≠ s.cfg.revActive → t.regs = { s.regs with mainmode := .clock }) ∧
      ∀ m, exec (.arSel lvl) { s with regs := { s.regs with mainmode := m } } = .next t) ∧
    (s.regs.rstate ≠ .idle → ∀ t, exec (.arSel lvl) s ≠ .next t)

/-- `SYS_RESET` (R191, 70_reset_and_hazards.md R231): in every state it runs and leaves every register at its reset value;
the ports then show 00:00:00, Normal, Clock, no distance and time 0; no strobe pulses; the invariants hold. Where `rst` is
1 at a clock edge it is the step taken, before anything else. That it restarts the two ghosts, `counts` and `lost`, is the
model's choice (log entry 14). -/
def Obligations.ResetLeavesTheStatedValues : Prop :=
  ∀ s : State, ∃ t, exec .sysReset s = .next t ∧ SameOutside s t ∧ t.out = quiet ∧ t.counts = 0 ∧ t.lost = false ∧
    t.regs =
      { tcnt := 0, mono := 0, ovfPend := false, ie := true, lMode := false, lInc := false, lDec := false, hh := 0, mm := 0,
        ss := 0, clkmode := .normal, idle := 0, secMark := 0, rstate := .idle, tMark := 0, tRise := 0, trig := false,
        status := false, dist := 0, distValid := false, rres := .none, mainmode := .clock, ph := .arb } ∧
    t.ports =
      { trig := false, status := false, hours := 0, minutes := 0, seconds := 0, clkmode := 0, mainmode := 0, distCm := 0,
        distValid := false, rres := 0, nowUs := 0, nowMs := 0 } ∧
    (s.cfg.Valid → Inv t) ∧
    (∀ p rest, s.cfg.Valid → s.script = .pins p :: rest → p.rst = true → step s = .next { t with script := rest })

/-- The sequencer's table (R184), row by row: which operation MAIN performs, what `PH` is after it, and that `view_stb`
pulses where the frame ends; at `P_BTN` the edge is dispatched in the same step. -/
def Obligations.SequencerPerformsTheTableRow : Prop :=
  ∀ (s : State) (inp : Inputs),
    (s.regs.ph = .arb → s.regs.rstate = .idle → ∃ u, exec (.arSel inp.rev) s = .next u ∧
      mainStep inp s = .next { u with regs := { u.regs with ph := .sec } }) ∧
    (s.regs.ph = .sec → ∃ u, exec .ckSecchk s = .next u ∧
      mainStep inp s = .next { u with regs := { u.regs with ph := .btn } }) ∧
    (s.regs.ph = .btn → s.regs.mainmode = .clock → ∃ u, exec (.btSample inp.adcRaw.toNat) s = .next u ∧
      mainStep inp s = .next { u with
        regs := { dispatchEdge s.cfg u.out.edge u.regs with ph := .arb }, out := { u.out with viewStb := true } }) ∧
    (s.regs.ph = .btn → s.regs.mainmode = .parking → ∃ u, exec (.btSample inp.adcRaw.toNat) s = .next u ∧
      mainStep inp s = .next { u with regs := { dispatchEdge s.cfg u.out.edge u.regs with ph := .rng } }) ∧
    (s.regs.ph = .rng → s.regs.rstate = .idle → ∃ u, exec .rgTrig s = .next u ∧ mainStep inp s = .next u) ∧
    (s.regs.ph = .rng → s.regs.rstate = .trig → ∃ u, exec .rgTrigw s = .next u ∧ mainStep inp s = .next u) ∧
    (s.regs.ph = .rng → s.regs.rstate = .waith → ∃ u, exec (.rgWaith inp.echo) s = .next u ∧ mainStep inp s = .next u) ∧
    (s.regs.ph = .rng → s.regs.rstate = .waitl → ∃ u, exec (.rgWaitl inp.echo) s = .next u ∧ mainStep inp s = .next u) ∧
    (s.regs.ph = .rng → s.regs.rstate = .recov → ∃ u, exec .rgRecov s = .next u ∧
      (u.regs.rstate = .idle → mainStep inp s = .next { u with
        regs := { u.regs with ph := .arb }, out := { u.out with viewStb := true } }) ∧
      (u.regs.rstate ≠ .idle → mainStep inp s = .next u))

/-- The dispatch (R186): an edge acts as its clock operation does, in a Clock frame or where `BTN_IN_PARKING` holds, and
is dropped otherwise; the sample and the dispatch are one step of MAIN at `P_BTN`. -/
def Obligations.DispatchActsAsTheClockOperation : Prop :=
  ∀ s : State,
    (∀ edge, s.regs.mainmode = .parking → s.cfg.btnInParking = false → dispatchEdge s.cfg edge s.regs = s.regs) ∧
    (dispatchEdge s.cfg .none s.regs = s.regs) ∧
    (s.regs.mainmode = .clock ∨ s.cfg.btnInParking = true →
      (∃ u, exec .ckMode s = .next u ∧ dispatchEdge s.cfg .mode s.regs = u.regs) ∧
      (∃ u, exec .ckInc s = .next u ∧ dispatchEdge s.cfg .inc s.regs = u.regs) ∧
      (∃ u, exec .ckDec s = .next u ∧ dispatchEdge s.cfg .dec s.regs = u.regs)) ∧
    (s.regs.ph = .btn → ∀ inp, ∃ u t, exec (.btSample inp.adcRaw.toNat) s = .next u ∧ mainStep inp s = .next t ∧
      t.regs = { dispatchEdge s.cfg u.out.edge u.regs with ph := t.regs.ph })

/-- A Clock frame is exactly three steps of MAIN (R184): from `P_ARB`, with the reverse line at the level that does not
mean reverse gear, three steps end the frame with `view_stb` and the clock view, no cycle is started and `STATUS` holds.
The script in State is the model's form (log entry 5). -/
def Obligations.ClockFrameIsThreeSteps : Prop :=
  ∀ (s : State) (a b c : Inputs) (rest : List Line), s.cfg.Valid → interruptUrgent s.regs = false → s.regs.ph = .arb →
    s.regs.rstate = .idle → s.script = .main a :: .main b :: .main c :: rest → a.rev ≠ s.cfg.revActive →
    ∃ t, Host.Core.run Sys2Proof.core 3 s = .next t ∧ t.script = rest ∧ t.regs.ph = .arb ∧ t.out.viewStb = true ∧
      t.regs.mainmode = .clock ∧ t.view = .clock t.regs.hh t.regs.mm t.regs.ss t.regs.clkmode.code ∧
      t.regs.rstate = .idle ∧ t.regs.status = s.regs.status ∧ t.regs.trig = s.regs.trig

/-- A Parking frame (R184, R182): with the reverse line at its level, the status line is high after the first step and the
fourth step starts a cycle: trigger high, status low, the mark at the time, and the frame goes on. The script in State is
the model's form (log entry 5). -/
def Obligations.ParkingFrameStartsACycle : Prop :=
  ∀ (s : State) (a b c d : Inputs) (rest : List Line), s.cfg.Valid → interruptUrgent s.regs = false → s.regs.ph = .arb →
    s.regs.rstate = .idle → s.script = .main a :: .main b :: .main c :: .main d :: rest → a.rev = s.cfg.revActive →
    (∃ t, Host.Core.run Sys2Proof.core 1 s = .next t ∧ t.regs.mainmode = .parking ∧ t.regs.status = true) ∧
    (∃ t, Host.Core.run Sys2Proof.core 4 s = .next t ∧ t.script = rest ∧ t.regs.ph = .rng ∧ t.regs.rstate = .trig ∧
      t.regs.trig = true ∧ t.regs.status = false ∧ t.regs.tMark = nowUs s.cfg s.regs ∧ t.out.viewStb = false)

/-- The mode of a frame is the level sampled at its `P_ARB` step, from that step to the end of the frame (R188): no other
step of MAIN and no operation but `AR_SEL` and a reset writes `MAINMODE`. -/
def Obligations.FrameModeIsTheSampledLevel : Prop :=
  (∀ (inp : Inputs) (s t : State), mainStep inp s = .next t →
    (s.regs.ph = .arb → (t.regs.mainmode = .parking ↔ inp.rev = s.cfg.revActive)) ∧
    (s.regs.ph ≠ .arb → t.regs.mainmode = s.regs.mainmode)) ∧
  (∀ (i : Instr) (s t : State), exec i s = .next t → i ≠ .arSel true → i ≠ .arSel false → i ≠ .sysReset →
    t.regs.mainmode = s.regs.mainmode)

/-- Who writes what (20_memory.md R68, 60_exceptions.md R209): the operations of MAIN never write the time base, the timer
writes its count and the request, the handler `MONO` and the request, HOST only `IE` unless it resets; and no operation
but a reset writes `PH`, which the sequencer alone writes (R193). -/
def Obligations.EachAgentWritesOnlyItsRegisters : Prop :=
  (∀ (i : Instr) (s t : State), exec i s = .next t →
    (i.agents = [.main] → SameTimeBase s.regs t.regs) ∧
    (i.agents = [.tmr] → t.regs = { s.regs with tcnt := t.regs.tcnt, ovfPend := t.regs.ovfPend }) ∧
    (i.agents = [.irq] → t.regs = { s.regs with mono := t.regs.mono, ovfPend := t.regs.ovfPend }) ∧
    (Agent.host ∈ i.agents → i ≠ .sysReset → t.regs = { s.regs with ie := t.regs.ie }) ∧
    (i ≠ .sysReset → t.regs.ph = s.regs.ph)) ∧
  (∀ (inp : Inputs) (s t : State), mainStep inp s = .next t → SameTimeBase s.regs t.regs)

/-- The strobes pulse in their own steps only (10_state.md R47): the heartbeat in a `CK_SECCHK` that detects a second, the
sample strobe in an `RG_WAITL` that sees the fall in time, the view strobe in the step of MAIN that ends a frame. -/
def Obligations.StrobesPulseOnlyInTheirSteps : Prop :=
  (∀ (i : Instr) (s t : State), exec i s = .next t →
    (t.out.hbStb = true ↔ i = .ckSecchk ∧ secondDue s.cfg s.regs = true) ∧
    (t.out.sampleStb = true ↔ i = .rgWaitl false ∧ fallTimedOut s.cfg s.regs = false) ∧ t.out.viewStb = false) ∧
  (∀ (inp : Inputs) (s t : State), mainStep inp s = .next t →
    (t.out.hbStb = true ↔ s.regs.ph = .sec ∧ secondDue s.cfg s.regs = true) ∧
    (t.out.sampleStb = true ↔ s.regs.ph = .rng ∧ s.regs.rstate = .waitl ∧ inp.echo = false ∧
      fallTimedOut s.cfg s.regs = false) ∧
    (t.out.viewStb = true ↔ s.regs.ph ≠ .arb ∧ t.regs.ph = .arb))

/-! ### The whole block -/

/-- The invariants hold after reset in every configuration, the counting law too (10_state.md R38, 40_timebase.md R117).
That `State.reset` is the reset state of `REFCFG` is the model's choice (log entry 2). -/
def Obligations.InvariantsHoldAtReset : Prop :=
  (∀ c : Config, c.Valid → Inv (State.resetWith c) ∧ SeqInv (State.resetWith c) ∧ CountLaw (State.resetWith c)) ∧
    Config.ref.Valid ∧ State.reset = State.resetWith Config.ref

/-- Every operation keeps the invariants (a) to (k), applied by itself in any state that has them (10_state.md R38,
44_arbiter_sequencer.md R193). -/
def Obligations.EveryOperationKeepsTheInvariants : Prop :=
  ∀ (i : Instr) (s t : State), Inv s → exec i s = .next t → Inv t

/-- Every step of an execution keeps them, a step of MAIN with its dispatch too; and (l), where the line is one the
composed block can take (10_state.md R38, 44_arbiter_sequencer.md R193). -/
def Obligations.EveryStepKeepsTheInvariants : Prop :=
  ∀ s t : State, Inv s → step s = .next t → Inv t ∧ (SeqInv s → systemLine (nextLine s) = true → SeqInv t)

/-- The block never stops (60_exceptions.md R200, 70_reset_and_hazards.md R237): from every safe state of the composed
block, whatever the environment does next, there is a next state and it is safe again. The environment is the model's (log
entry 6). -/
def Obligations.RunningBlockNeverStops : Prop :=
  ∀ s : State, Running s → ∃ t, step s = .next t ∧ Running t

/-- So every run from reset, in every configuration and under every environment, goes on for any number of steps in safe
states, and no step changes the configuration (70_reset_and_hazards.md R236 (a), R237). The environment is the model's
(log entry 6). -/
def Obligations.EveryRunFromResetStaysSafe : Prop :=
  ∀ (c : Config) (n : Nat), c.Valid →
    ∃ t, Host.Core.run Sys2Proof.core n (State.resetWith c) = .next t ∧ Running t ∧ CountLaw t ∧ t.cfg = c

/-- What is held for the output ports drives nothing (10_state.md R35, 90_conflicts.md C6): two states that differ only in
`DIST`, `DIST_VALID` and `RRES` take the same step, and the next states agree once those three are made equal. -/
def Obligations.HeldSampleDrivesNothing : Prop :=
  ∀ (s t : State) (d : Nat) (v : Bool) (x : RRes), step s = .next t →
    ∃ t', step { s with regs := { s.regs with dist := d, distValid := v, rres := x } } = .next t' ∧
      { t' with regs := { t'.regs with dist := d, distValid := v, rres := x } } =
        { t with regs := { t.regs with dist := d, distValid := v, rres := x } }
end

