-- ==== Sys2Proof/Laws/Encoding.lean ====
section
/-! SUPPORT. The fields of an operation word (30_encoding.md R80): packing and unpacking undo each other. -/

namespace Sys2Proof

/-- The bits of a packed word. -/
theorem packWord_getLsbD (f s : BitVec 3) (a : BitVec 10) (i : Nat) :
    (packWord f s a).getLsbD i =
      if i < 10 then a.getLsbD i else if i - 10 < 3 then s.getLsbD (i - 10) else f.getLsbD (i - 10 - 3) := by
  rw [packWord, ← BitVec.getLsbD_append, ← BitVec.getLsbD_append]

@[simp] theorem famField_packWord (f s : BitVec 3) (a : BitVec 10) : famField (packWord f s a) = f := by
  ext i hi
  rw [famField, BitVec.getElem_extractLsb', packWord_getLsbD, if_neg (by omega), if_neg (by omega),
    show 13 + i - 10 - 3 = i by omega, BitVec.getLsbD_eq_getElem]

@[simp] theorem subField_packWord (f s : BitVec 3) (a : BitVec 10) : subField (packWord f s a) = s := by
  ext i hi
  rw [subField, BitVec.getElem_extractLsb', packWord_getLsbD, if_neg (by omega), if_pos (by omega),
    show 10 + i - 10 = i by omega, BitVec.getLsbD_eq_getElem]

@[simp] theorem argField_packWord (f s : BitVec 3) (a : BitVec 10) : argField (packWord f s a) = a := by
  ext i hi
  rw [argField, BitVec.getElem_extractLsb', packWord_getLsbD, if_pos (by omega), show 0 + i = i by omega,
    BitVec.getLsbD_eq_getElem]

/-- A word is its three fields. -/
theorem packWord_fields (w : Word) : packWord (famField w) (subField w) (argField w) = w := by
  apply BitVec.eq_of_getLsbD_eq
  intro i hi
  rw [packWord_getLsbD]
  simp only [famField, subField, argField, BitVec.getLsbD_extractLsb']
  split
  · simp_all
  · split
    · rename_i h1 h2; simp [h2, show 10 + (i - 10) = i by omega]
    · simp [show i - 10 - 3 < 3 by omega, show 13 + (i - 10 - 3) = i by omega]

/-- A level operand is read back from its field (30_encoding.md R81). -/
@[simp] theorem levelArg_level (lvl : Bool) : (levelArg lvl).getLsbD 0 = lvl := by cases lvl <;> decide

@[simp] theorem levelArg_high (lvl : Bool) : (levelArg lvl).extractLsb' 1 9 = 0 := by cases lvl <;> decide

/-- Bit 0 of a level operand, in the spelling that `simp` prefers. -/
@[simp] theorem levelArg_bit0 (lvl : Bool) : (levelArg lvl)[0] = lvl := by cases lvl <;> decide

/-- A field whose bits 9:1 are 0 is a level operand (30_encoding.md R81). -/
theorem levelArg_of_high {a : BitVec 10} (h : a.extractLsb' 1 9 = 0) : levelArg (a.getLsbD 0) = a := by
  apply BitVec.eq_of_getLsbD_eq
  intro i hi
  cases i with
  | zero => exact levelArg_level _
  | succ k =>
    have h1 : (a.extractLsb' 1 9).getLsbD k = false := by rw [h]; simp
    rw [BitVec.getLsbD_extractLsb'] at h1
    have h2 : a.getLsbD (k + 1) = false := by
      simpa [show k < 9 by omega, Nat.add_comm] using h1
    rw [h2, levelArg]
    split <;> simp

end Sys2Proof
end

