-- ==== Sys2Proof/Laws/State.lean ====
section
/-! SUPPORT. One lemma per field per named update of the state and of the registers, true by definition, so that no proof
unfolds a record update. -/

namespace Sys2Proof.Machine

/-! ### quiet -/

@[simp] theorem quiet_hbStb : quiet.hbStb = false := rfl
@[simp] theorem quiet_sampleStb : quiet.sampleStb = false := rfl
@[simp] theorem quiet_viewStb : quiet.viewStb = false := rfl
@[simp] theorem quiet_read : quiet.read = none := rfl
@[simp] theorem quiet_button : quiet.button = none := rfl

/-! ### State.commit -/

@[simp] theorem State.commit_cfg (s : State) (r : Regs) (o : Outputs) : (s.commit r o).cfg = s.cfg := rfl
@[simp] theorem State.commit_regs (s : State) (r : Regs) (o : Outputs) : (s.commit r o).regs = r := rfl
@[simp] theorem State.commit_out (s : State) (r : Regs) (o : Outputs) : (s.commit r o).out = o := rfl
@[simp] theorem State.commit_counts (s : State) (r : Regs) (o : Outputs) : (s.commit r o).counts = s.counts := rfl
@[simp] theorem State.commit_lost (s : State) (r : Regs) (o : Outputs) : (s.commit r o).lost = s.lost := rfl
@[simp] theorem State.commit_script (s : State) (r : Regs) (o : Outputs) : (s.commit r o).script = s.script := rfl
@[simp] theorem State.commit_env (s : State) (r : Regs) (o : Outputs) : (s.commit r o).env = s.env := rfl
@[simp] theorem State.commit_since (s : State) (r : Regs) (o : Outputs) : (s.commit r o).since = s.since := rfl

/-! ### State.pushWord -/

@[simp] theorem State.pushWord_cfg (s : State) (w : Word) : (s.pushWord w).cfg = s.cfg := rfl
@[simp] theorem State.pushWord_regs (s : State) (w : Word) : (s.pushWord w).regs = s.regs := rfl
@[simp] theorem State.pushWord_out (s : State) (w : Word) : (s.pushWord w).out = s.out := rfl
@[simp] theorem State.pushWord_counts (s : State) (w : Word) : (s.pushWord w).counts = s.counts := rfl
@[simp] theorem State.pushWord_lost (s : State) (w : Word) : (s.pushWord w).lost = s.lost := rfl
@[simp] theorem State.pushWord_script (s : State) (w : Word) : (s.pushWord w).script = .op w :: s.script := rfl
@[simp] theorem State.pushWord_env (s : State) (w : Word) : (s.pushWord w).env = s.env := rfl
@[simp] theorem State.pushWord_since (s : State) (w : Word) : (s.pushWord w).since = s.since := rfl

/-! ### State.withFetchWord -/

@[simp] theorem State.withFetchWord_cfg (s : State) (n w : Nat) : (s.withFetchWord n w).cfg = s.cfg := rfl
@[simp] theorem State.withFetchWord_regs (s : State) (n w : Nat) : (s.withFetchWord n w).regs = s.regs := rfl
@[simp] theorem State.withFetchWord_out (s : State) (n w : Nat) : (s.withFetchWord n w).out = s.out := rfl
@[simp] theorem State.withFetchWord_counts (s : State) (n w : Nat) : (s.withFetchWord n w).counts = s.counts := rfl
@[simp] theorem State.withFetchWord_lost (s : State) (n w : Nat) : (s.withFetchWord n w).lost = s.lost := rfl
@[simp] theorem State.withFetchWord_script (s : State) (n w : Nat) : (s.withFetchWord n w).script = .op (BitVec.ofNat 16 (w % 2 ^ n)) :: s.script := rfl
@[simp] theorem State.withFetchWord_env (s : State) (n w : Nat) : (s.withFetchWord n w).env = s.env := rfl
@[simp] theorem State.withFetchWord_since (s : State) (n w : Nat) : (s.withFetchWord n w).since = s.since := rfl

/-! ### State.load -/

@[simp] theorem State.load_cfg (s : State) (ls : List Line) : (s.load ls).cfg = s.cfg := rfl
@[simp] theorem State.load_regs (s : State) (ls : List Line) : (s.load ls).regs = s.regs := rfl
@[simp] theorem State.load_out (s : State) (ls : List Line) : (s.load ls).out = s.out := rfl
@[simp] theorem State.load_counts (s : State) (ls : List Line) : (s.load ls).counts = s.counts := rfl
@[simp] theorem State.load_lost (s : State) (ls : List Line) : (s.load ls).lost = s.lost := rfl
@[simp] theorem State.load_script (s : State) (ls : List Line) : (s.load ls).script = ls ++ s.script := rfl
@[simp] theorem State.load_env (s : State) (ls : List Line) : (s.load ls).env = s.env := rfl
@[simp] theorem State.load_since (s : State) (ls : List Line) : (s.load ls).since = s.since := rfl

/-! ### Regs.setTcnt -/

@[simp] theorem Regs.setTcnt_tcnt (r : Regs) (c : Config) (n : Nat) : (r.setTcnt c n).tcnt = n % 2 ^ c.tmrW := rfl
@[simp] theorem Regs.setTcnt_mono (r : Regs) (c : Config) (n : Nat) : (r.setTcnt c n).mono = r.mono := rfl
@[simp] theorem Regs.setTcnt_ovfPend (r : Regs) (c : Config) (n : Nat) : (r.setTcnt c n).ovfPend = r.ovfPend := rfl
@[simp] theorem Regs.setTcnt_ie (r : Regs) (c : Config) (n : Nat) : (r.setTcnt c n).ie = r.ie := rfl
@[simp] theorem Regs.setTcnt_lMode (r : Regs) (c : Config) (n : Nat) : (r.setTcnt c n).lMode = r.lMode := rfl
@[simp] theorem Regs.setTcnt_lInc (r : Regs) (c : Config) (n : Nat) : (r.setTcnt c n).lInc = r.lInc := rfl
@[simp] theorem Regs.setTcnt_lDec (r : Regs) (c : Config) (n : Nat) : (r.setTcnt c n).lDec = r.lDec := rfl
@[simp] theorem Regs.setTcnt_hh (r : Regs) (c : Config) (n : Nat) : (r.setTcnt c n).hh = r.hh := rfl
@[simp] theorem Regs.setTcnt_mm (r : Regs) (c : Config) (n : Nat) : (r.setTcnt c n).mm = r.mm := rfl
@[simp] theorem Regs.setTcnt_ss (r : Regs) (c : Config) (n : Nat) : (r.setTcnt c n).ss = r.ss := rfl
@[simp] theorem Regs.setTcnt_clkmode (r : Regs) (c : Config) (n : Nat) : (r.setTcnt c n).clkmode = r.clkmode := rfl
@[simp] theorem Regs.setTcnt_idle (r : Regs) (c : Config) (n : Nat) : (r.setTcnt c n).idle = r.idle := rfl
@[simp] theorem Regs.setTcnt_secMark (r : Regs) (c : Config) (n : Nat) : (r.setTcnt c n).secMark = r.secMark := rfl
@[simp] theorem Regs.setTcnt_rstate (r : Regs) (c : Config) (n : Nat) : (r.setTcnt c n).rstate = r.rstate := rfl
@[simp] theorem Regs.setTcnt_tMark (r : Regs) (c : Config) (n : Nat) : (r.setTcnt c n).tMark = r.tMark := rfl
@[simp] theorem Regs.setTcnt_tRise (r : Regs) (c : Config) (n : Nat) : (r.setTcnt c n).tRise = r.tRise := rfl
@[simp] theorem Regs.setTcnt_trig (r : Regs) (c : Config) (n : Nat) : (r.setTcnt c n).trig = r.trig := rfl
@[simp] theorem Regs.setTcnt_status (r : Regs) (c : Config) (n : Nat) : (r.setTcnt c n).status = r.status := rfl
@[simp] theorem Regs.setTcnt_dist (r : Regs) (c : Config) (n : Nat) : (r.setTcnt c n).dist = r.dist := rfl
@[simp] theorem Regs.setTcnt_distValid (r : Regs) (c : Config) (n : Nat) : (r.setTcnt c n).distValid = r.distValid := rfl
@[simp] theorem Regs.setTcnt_rres (r : Regs) (c : Config) (n : Nat) : (r.setTcnt c n).rres = r.rres := rfl
@[simp] theorem Regs.setTcnt_mainmode (r : Regs) (c : Config) (n : Nat) : (r.setTcnt c n).mainmode = r.mainmode := rfl
@[simp] theorem Regs.setTcnt_ph (r : Regs) (c : Config) (n : Nat) : (r.setTcnt c n).ph = r.ph := rfl

/-! ### Regs.setIdle -/

@[simp] theorem Regs.setIdle_tcnt (r : Regs) (c : Config) (n : Nat) : (r.setIdle c n).tcnt = r.tcnt := rfl
@[simp] theorem Regs.setIdle_mono (r : Regs) (c : Config) (n : Nat) : (r.setIdle c n).mono = r.mono := rfl
@[simp] theorem Regs.setIdle_ovfPend (r : Regs) (c : Config) (n : Nat) : (r.setIdle c n).ovfPend = r.ovfPend := rfl
@[simp] theorem Regs.setIdle_ie (r : Regs) (c : Config) (n : Nat) : (r.setIdle c n).ie = r.ie := rfl
@[simp] theorem Regs.setIdle_lMode (r : Regs) (c : Config) (n : Nat) : (r.setIdle c n).lMode = r.lMode := rfl
@[simp] theorem Regs.setIdle_lInc (r : Regs) (c : Config) (n : Nat) : (r.setIdle c n).lInc = r.lInc := rfl
@[simp] theorem Regs.setIdle_lDec (r : Regs) (c : Config) (n : Nat) : (r.setIdle c n).lDec = r.lDec := rfl
@[simp] theorem Regs.setIdle_hh (r : Regs) (c : Config) (n : Nat) : (r.setIdle c n).hh = r.hh := rfl
@[simp] theorem Regs.setIdle_mm (r : Regs) (c : Config) (n : Nat) : (r.setIdle c n).mm = r.mm := rfl
@[simp] theorem Regs.setIdle_ss (r : Regs) (c : Config) (n : Nat) : (r.setIdle c n).ss = r.ss := rfl
@[simp] theorem Regs.setIdle_clkmode (r : Regs) (c : Config) (n : Nat) : (r.setIdle c n).clkmode = r.clkmode := rfl
@[simp] theorem Regs.setIdle_idle (r : Regs) (c : Config) (n : Nat) : (r.setIdle c n).idle = n % 2 ^ c.idleW := rfl
@[simp] theorem Regs.setIdle_secMark (r : Regs) (c : Config) (n : Nat) : (r.setIdle c n).secMark = r.secMark := rfl
@[simp] theorem Regs.setIdle_rstate (r : Regs) (c : Config) (n : Nat) : (r.setIdle c n).rstate = r.rstate := rfl
@[simp] theorem Regs.setIdle_tMark (r : Regs) (c : Config) (n : Nat) : (r.setIdle c n).tMark = r.tMark := rfl
@[simp] theorem Regs.setIdle_tRise (r : Regs) (c : Config) (n : Nat) : (r.setIdle c n).tRise = r.tRise := rfl
@[simp] theorem Regs.setIdle_trig (r : Regs) (c : Config) (n : Nat) : (r.setIdle c n).trig = r.trig := rfl
@[simp] theorem Regs.setIdle_status (r : Regs) (c : Config) (n : Nat) : (r.setIdle c n).status = r.status := rfl
@[simp] theorem Regs.setIdle_dist (r : Regs) (c : Config) (n : Nat) : (r.setIdle c n).dist = r.dist := rfl
@[simp] theorem Regs.setIdle_distValid (r : Regs) (c : Config) (n : Nat) : (r.setIdle c n).distValid = r.distValid := rfl
@[simp] theorem Regs.setIdle_rres (r : Regs) (c : Config) (n : Nat) : (r.setIdle c n).rres = r.rres := rfl
@[simp] theorem Regs.setIdle_mainmode (r : Regs) (c : Config) (n : Nat) : (r.setIdle c n).mainmode = r.mainmode := rfl
@[simp] theorem Regs.setIdle_ph (r : Regs) (c : Config) (n : Nat) : (r.setIdle c n).ph = r.ph := rfl

/-! ### Regs.setDist -/

@[simp] theorem Regs.setDist_tcnt (r : Regs) (c : Config) (n : Nat) : (r.setDist c n).tcnt = r.tcnt := rfl
@[simp] theorem Regs.setDist_mono (r : Regs) (c : Config) (n : Nat) : (r.setDist c n).mono = r.mono := rfl
@[simp] theorem Regs.setDist_ovfPend (r : Regs) (c : Config) (n : Nat) : (r.setDist c n).ovfPend = r.ovfPend := rfl
@[simp] theorem Regs.setDist_ie (r : Regs) (c : Config) (n : Nat) : (r.setDist c n).ie = r.ie := rfl
@[simp] theorem Regs.setDist_lMode (r : Regs) (c : Config) (n : Nat) : (r.setDist c n).lMode = r.lMode := rfl
@[simp] theorem Regs.setDist_lInc (r : Regs) (c : Config) (n : Nat) : (r.setDist c n).lInc = r.lInc := rfl
@[simp] theorem Regs.setDist_lDec (r : Regs) (c : Config) (n : Nat) : (r.setDist c n).lDec = r.lDec := rfl
@[simp] theorem Regs.setDist_hh (r : Regs) (c : Config) (n : Nat) : (r.setDist c n).hh = r.hh := rfl
@[simp] theorem Regs.setDist_mm (r : Regs) (c : Config) (n : Nat) : (r.setDist c n).mm = r.mm := rfl
@[simp] theorem Regs.setDist_ss (r : Regs) (c : Config) (n : Nat) : (r.setDist c n).ss = r.ss := rfl
@[simp] theorem Regs.setDist_clkmode (r : Regs) (c : Config) (n : Nat) : (r.setDist c n).clkmode = r.clkmode := rfl
@[simp] theorem Regs.setDist_idle (r : Regs) (c : Config) (n : Nat) : (r.setDist c n).idle = r.idle := rfl
@[simp] theorem Regs.setDist_secMark (r : Regs) (c : Config) (n : Nat) : (r.setDist c n).secMark = r.secMark := rfl
@[simp] theorem Regs.setDist_rstate (r : Regs) (c : Config) (n : Nat) : (r.setDist c n).rstate = r.rstate := rfl
@[simp] theorem Regs.setDist_tMark (r : Regs) (c : Config) (n : Nat) : (r.setDist c n).tMark = r.tMark := rfl
@[simp] theorem Regs.setDist_tRise (r : Regs) (c : Config) (n : Nat) : (r.setDist c n).tRise = r.tRise := rfl
@[simp] theorem Regs.setDist_trig (r : Regs) (c : Config) (n : Nat) : (r.setDist c n).trig = r.trig := rfl
@[simp] theorem Regs.setDist_status (r : Regs) (c : Config) (n : Nat) : (r.setDist c n).status = r.status := rfl
@[simp] theorem Regs.setDist_dist (r : Regs) (c : Config) (n : Nat) : (r.setDist c n).dist = n % 2 ^ c.distW := rfl
@[simp] theorem Regs.setDist_distValid (r : Regs) (c : Config) (n : Nat) : (r.setDist c n).distValid = r.distValid := rfl
@[simp] theorem Regs.setDist_rres (r : Regs) (c : Config) (n : Nat) : (r.setDist c n).rres = r.rres := rfl
@[simp] theorem Regs.setDist_mainmode (r : Regs) (c : Config) (n : Nat) : (r.setDist c n).mainmode = r.mainmode := rfl
@[simp] theorem Regs.setDist_ph (r : Regs) (c : Config) (n : Nat) : (r.setDist c n).ph = r.ph := rfl

/-! ### takeOverflow -/

@[simp] theorem takeOverflow_tcnt (r : Regs) (c : Config) : (takeOverflow c r).tcnt = r.tcnt := rfl
@[simp] theorem takeOverflow_mono (r : Regs) (c : Config) : (takeOverflow c r).mono = r.mono + BitVec.ofNat 64 c.tmrRange := rfl
@[simp] theorem takeOverflow_ovfPend (r : Regs) (c : Config) : (takeOverflow c r).ovfPend = false := rfl
@[simp] theorem takeOverflow_ie (r : Regs) (c : Config) : (takeOverflow c r).ie = r.ie := rfl
@[simp] theorem takeOverflow_lMode (r : Regs) (c : Config) : (takeOverflow c r).lMode = r.lMode := rfl
@[simp] theorem takeOverflow_lInc (r : Regs) (c : Config) : (takeOverflow c r).lInc = r.lInc := rfl
@[simp] theorem takeOverflow_lDec (r : Regs) (c : Config) : (takeOverflow c r).lDec = r.lDec := rfl
@[simp] theorem takeOverflow_hh (r : Regs) (c : Config) : (takeOverflow c r).hh = r.hh := rfl
@[simp] theorem takeOverflow_mm (r : Regs) (c : Config) : (takeOverflow c r).mm = r.mm := rfl
@[simp] theorem takeOverflow_ss (r : Regs) (c : Config) : (takeOverflow c r).ss = r.ss := rfl
@[simp] theorem takeOverflow_clkmode (r : Regs) (c : Config) : (takeOverflow c r).clkmode = r.clkmode := rfl
@[simp] theorem takeOverflow_idle (r : Regs) (c : Config) : (takeOverflow c r).idle = r.idle := rfl
@[simp] theorem takeOverflow_secMark (r : Regs) (c : Config) : (takeOverflow c r).secMark = r.secMark := rfl
@[simp] theorem takeOverflow_rstate (r : Regs) (c : Config) : (takeOverflow c r).rstate = r.rstate := rfl
@[simp] theorem takeOverflow_tMark (r : Regs) (c : Config) : (takeOverflow c r).tMark = r.tMark := rfl
@[simp] theorem takeOverflow_tRise (r : Regs) (c : Config) : (takeOverflow c r).tRise = r.tRise := rfl
@[simp] theorem takeOverflow_trig (r : Regs) (c : Config) : (takeOverflow c r).trig = r.trig := rfl
@[simp] theorem takeOverflow_status (r : Regs) (c : Config) : (takeOverflow c r).status = r.status := rfl
@[simp] theorem takeOverflow_dist (r : Regs) (c : Config) : (takeOverflow c r).dist = r.dist := rfl
@[simp] theorem takeOverflow_distValid (r : Regs) (c : Config) : (takeOverflow c r).distValid = r.distValid := rfl
@[simp] theorem takeOverflow_rres (r : Regs) (c : Config) : (takeOverflow c r).rres = r.rres := rfl
@[simp] theorem takeOverflow_mainmode (r : Regs) (c : Config) : (takeOverflow c r).mainmode = r.mainmode := rfl
@[simp] theorem takeOverflow_ph (r : Regs) (c : Config) : (takeOverflow c r).ph = r.ph := rfl

/-! ### latchBands -/

@[simp] theorem latchBands_tcnt (r : Regs) (raw : Nat) : (latchBands r raw).tcnt = r.tcnt := rfl
@[simp] theorem latchBands_mono (r : Regs) (raw : Nat) : (latchBands r raw).mono = r.mono := rfl
@[simp] theorem latchBands_ovfPend (r : Regs) (raw : Nat) : (latchBands r raw).ovfPend = r.ovfPend := rfl
@[simp] theorem latchBands_ie (r : Regs) (raw : Nat) : (latchBands r raw).ie = r.ie := rfl
@[simp] theorem latchBands_lMode (r : Regs) (raw : Nat) : (latchBands r raw).lMode = inMode raw := rfl
@[simp] theorem latchBands_lInc (r : Regs) (raw : Nat) : (latchBands r raw).lInc = inInc raw := rfl
@[simp] theorem latchBands_lDec (r : Regs) (raw : Nat) : (latchBands r raw).lDec = inDec raw := rfl
@[simp] theorem latchBands_hh (r : Regs) (raw : Nat) : (latchBands r raw).hh = r.hh := rfl
@[simp] theorem latchBands_mm (r : Regs) (raw : Nat) : (latchBands r raw).mm = r.mm := rfl
@[simp] theorem latchBands_ss (r : Regs) (raw : Nat) : (latchBands r raw).ss = r.ss := rfl
@[simp] theorem latchBands_clkmode (r : Regs) (raw : Nat) : (latchBands r raw).clkmode = r.clkmode := rfl
@[simp] theorem latchBands_idle (r : Regs) (raw : Nat) : (latchBands r raw).idle = r.idle := rfl
@[simp] theorem latchBands_secMark (r : Regs) (raw : Nat) : (latchBands r raw).secMark = r.secMark := rfl
@[simp] theorem latchBands_rstate (r : Regs) (raw : Nat) : (latchBands r raw).rstate = r.rstate := rfl
@[simp] theorem latchBands_tMark (r : Regs) (raw : Nat) : (latchBands r raw).tMark = r.tMark := rfl
@[simp] theorem latchBands_tRise (r : Regs) (raw : Nat) : (latchBands r raw).tRise = r.tRise := rfl
@[simp] theorem latchBands_trig (r : Regs) (raw : Nat) : (latchBands r raw).trig = r.trig := rfl
@[simp] theorem latchBands_status (r : Regs) (raw : Nat) : (latchBands r raw).status = r.status := rfl
@[simp] theorem latchBands_dist (r : Regs) (raw : Nat) : (latchBands r raw).dist = r.dist := rfl
@[simp] theorem latchBands_distValid (r : Regs) (raw : Nat) : (latchBands r raw).distValid = r.distValid := rfl
@[simp] theorem latchBands_rres (r : Regs) (raw : Nat) : (latchBands r raw).rres = r.rres := rfl
@[simp] theorem latchBands_mainmode (r : Regs) (raw : Nat) : (latchBands r raw).mainmode = r.mainmode := rfl
@[simp] theorem latchBands_ph (r : Regs) (raw : Nat) : (latchBands r raw).ph = r.ph := rfl

/-! ### modeEdge -/

@[simp] theorem modeEdge_tcnt (r : Regs) : (modeEdge r).tcnt = r.tcnt := rfl
@[simp] theorem modeEdge_mono (r : Regs) : (modeEdge r).mono = r.mono := rfl
@[simp] theorem modeEdge_ovfPend (r : Regs) : (modeEdge r).ovfPend = r.ovfPend := rfl
@[simp] theorem modeEdge_ie (r : Regs) : (modeEdge r).ie = r.ie := rfl
@[simp] theorem modeEdge_lMode (r : Regs) : (modeEdge r).lMode = r.lMode := rfl
@[simp] theorem modeEdge_lInc (r : Regs) : (modeEdge r).lInc = r.lInc := rfl
@[simp] theorem modeEdge_lDec (r : Regs) : (modeEdge r).lDec = r.lDec := rfl
@[simp] theorem modeEdge_hh (r : Regs) : (modeEdge r).hh = r.hh := rfl
@[simp] theorem modeEdge_mm (r : Regs) : (modeEdge r).mm = r.mm := rfl
@[simp] theorem modeEdge_ss (r : Regs) : (modeEdge r).ss = r.ss := rfl
@[simp] theorem modeEdge_clkmode (r : Regs) : (modeEdge r).clkmode = r.clkmode.advance := rfl
@[simp] theorem modeEdge_idle (r : Regs) : (modeEdge r).idle = 0 := rfl
@[simp] theorem modeEdge_secMark (r : Regs) : (modeEdge r).secMark = r.secMark := rfl
@[simp] theorem modeEdge_rstate (r : Regs) : (modeEdge r).rstate = r.rstate := rfl
@[simp] theorem modeEdge_tMark (r : Regs) : (modeEdge r).tMark = r.tMark := rfl
@[simp] theorem modeEdge_tRise (r : Regs) : (modeEdge r).tRise = r.tRise := rfl
@[simp] theorem modeEdge_trig (r : Regs) : (modeEdge r).trig = r.trig := rfl
@[simp] theorem modeEdge_status (r : Regs) : (modeEdge r).status = r.status := rfl
@[simp] theorem modeEdge_dist (r : Regs) : (modeEdge r).dist = r.dist := rfl
@[simp] theorem modeEdge_distValid (r : Regs) : (modeEdge r).distValid = r.distValid := rfl
@[simp] theorem modeEdge_rres (r : Regs) : (modeEdge r).rres = r.rres := rfl
@[simp] theorem modeEdge_mainmode (r : Regs) : (modeEdge r).mainmode = r.mainmode := rfl
@[simp] theorem modeEdge_ph (r : Regs) : (modeEdge r).ph = r.ph := rfl

/-! ### addHours -/

@[simp] theorem addHours_tcnt (r : Regs) (n : Nat) : (addHours r n).tcnt = r.tcnt := rfl
@[simp] theorem addHours_mono (r : Regs) (n : Nat) : (addHours r n).mono = r.mono := rfl
@[simp] theorem addHours_ovfPend (r : Regs) (n : Nat) : (addHours r n).ovfPend = r.ovfPend := rfl
@[simp] theorem addHours_ie (r : Regs) (n : Nat) : (addHours r n).ie = r.ie := rfl
@[simp] theorem addHours_lMode (r : Regs) (n : Nat) : (addHours r n).lMode = r.lMode := rfl
@[simp] theorem addHours_lInc (r : Regs) (n : Nat) : (addHours r n).lInc = r.lInc := rfl
@[simp] theorem addHours_lDec (r : Regs) (n : Nat) : (addHours r n).lDec = r.lDec := rfl
@[simp] theorem addHours_hh (r : Regs) (n : Nat) : (addHours r n).hh = BitVec.ofNat 5 ((r.hh.toNat + n) % Config.hoursMod) := rfl
@[simp] theorem addHours_mm (r : Regs) (n : Nat) : (addHours r n).mm = r.mm := rfl
@[simp] theorem addHours_ss (r : Regs) (n : Nat) : (addHours r n).ss = r.ss := rfl
@[simp] theorem addHours_clkmode (r : Regs) (n : Nat) : (addHours r n).clkmode = r.clkmode := rfl
@[simp] theorem addHours_idle (r : Regs) (n : Nat) : (addHours r n).idle = 0 := rfl
@[simp] theorem addHours_secMark (r : Regs) (n : Nat) : (addHours r n).secMark = r.secMark := rfl
@[simp] theorem addHours_rstate (r : Regs) (n : Nat) : (addHours r n).rstate = r.rstate := rfl
@[simp] theorem addHours_tMark (r : Regs) (n : Nat) : (addHours r n).tMark = r.tMark := rfl
@[simp] theorem addHours_tRise (r : Regs) (n : Nat) : (addHours r n).tRise = r.tRise := rfl
@[simp] theorem addHours_trig (r : Regs) (n : Nat) : (addHours r n).trig = r.trig := rfl
@[simp] theorem addHours_status (r : Regs) (n : Nat) : (addHours r n).status = r.status := rfl
@[simp] theorem addHours_dist (r : Regs) (n : Nat) : (addHours r n).dist = r.dist := rfl
@[simp] theorem addHours_distValid (r : Regs) (n : Nat) : (addHours r n).distValid = r.distValid := rfl
@[simp] theorem addHours_rres (r : Regs) (n : Nat) : (addHours r n).rres = r.rres := rfl
@[simp] theorem addHours_mainmode (r : Regs) (n : Nat) : (addHours r n).mainmode = r.mainmode := rfl
@[simp] theorem addHours_ph (r : Regs) (n : Nat) : (addHours r n).ph = r.ph := rfl

/-! ### addMinutes -/

@[simp] theorem addMinutes_tcnt (r : Regs) (n : Nat) : (addMinutes r n).tcnt = r.tcnt := rfl
@[simp] theorem addMinutes_mono (r : Regs) (n : Nat) : (addMinutes r n).mono = r.mono := rfl
@[simp] theorem addMinutes_ovfPend (r : Regs) (n : Nat) : (addMinutes r n).ovfPend = r.ovfPend := rfl
@[simp] theorem addMinutes_ie (r : Regs) (n : Nat) : (addMinutes r n).ie = r.ie := rfl
@[simp] theorem addMinutes_lMode (r : Regs) (n : Nat) : (addMinutes r n).lMode = r.lMode := rfl
@[simp] theorem addMinutes_lInc (r : Regs) (n : Nat) : (addMinutes r n).lInc = r.lInc := rfl
@[simp] theorem addMinutes_lDec (r : Regs) (n : Nat) : (addMinutes r n).lDec = r.lDec := rfl
@[simp] theorem addMinutes_hh (r : Regs) (n : Nat) : (addMinutes r n).hh = r.hh := rfl
@[simp] theorem addMinutes_mm (r : Regs) (n : Nat) : (addMinutes r n).mm = BitVec.ofNat 6 ((r.mm.toNat + n) % Config.minMod) := rfl
@[simp] theorem addMinutes_ss (r : Regs) (n : Nat) : (addMinutes r n).ss = r.ss := rfl
@[simp] theorem addMinutes_clkmode (r : Regs) (n : Nat) : (addMinutes r n).clkmode = r.clkmode := rfl
@[simp] theorem addMinutes_idle (r : Regs) (n : Nat) : (addMinutes r n).idle = 0 := rfl
@[simp] theorem addMinutes_secMark (r : Regs) (n : Nat) : (addMinutes r n).secMark = r.secMark := rfl
@[simp] theorem addMinutes_rstate (r : Regs) (n : Nat) : (addMinutes r n).rstate = r.rstate := rfl
@[simp] theorem addMinutes_tMark (r : Regs) (n : Nat) : (addMinutes r n).tMark = r.tMark := rfl
@[simp] theorem addMinutes_tRise (r : Regs) (n : Nat) : (addMinutes r n).tRise = r.tRise := rfl
@[simp] theorem addMinutes_trig (r : Regs) (n : Nat) : (addMinutes r n).trig = r.trig := rfl
@[simp] theorem addMinutes_status (r : Regs) (n : Nat) : (addMinutes r n).status = r.status := rfl
@[simp] theorem addMinutes_dist (r : Regs) (n : Nat) : (addMinutes r n).dist = r.dist := rfl
@[simp] theorem addMinutes_distValid (r : Regs) (n : Nat) : (addMinutes r n).distValid = r.distValid := rfl
@[simp] theorem addMinutes_rres (r : Regs) (n : Nat) : (addMinutes r n).rres = r.rres := rfl
@[simp] theorem addMinutes_mainmode (r : Regs) (n : Nat) : (addMinutes r n).mainmode = r.mainmode := rfl
@[simp] theorem addMinutes_ph (r : Regs) (n : Nat) : (addMinutes r n).ph = r.ph := rfl

/-! ### startCycle -/

@[simp] theorem startCycle_tcnt (r : Regs) (c : Config) : (startCycle c r).tcnt = r.tcnt := rfl
@[simp] theorem startCycle_mono (r : Regs) (c : Config) : (startCycle c r).mono = r.mono := rfl
@[simp] theorem startCycle_ovfPend (r : Regs) (c : Config) : (startCycle c r).ovfPend = r.ovfPend := rfl
@[simp] theorem startCycle_ie (r : Regs) (c : Config) : (startCycle c r).ie = r.ie := rfl
@[simp] theorem startCycle_lMode (r : Regs) (c : Config) : (startCycle c r).lMode = r.lMode := rfl
@[simp] theorem startCycle_lInc (r : Regs) (c : Config) : (startCycle c r).lInc = r.lInc := rfl
@[simp] theorem startCycle_lDec (r : Regs) (c : Config) : (startCycle c r).lDec = r.lDec := rfl
@[simp] theorem startCycle_hh (r : Regs) (c : Config) : (startCycle c r).hh = r.hh := rfl
@[simp] theorem startCycle_mm (r : Regs) (c : Config) : (startCycle c r).mm = r.mm := rfl
@[simp] theorem startCycle_ss (r : Regs) (c : Config) : (startCycle c r).ss = r.ss := rfl
@[simp] theorem startCycle_clkmode (r : Regs) (c : Config) : (startCycle c r).clkmode = r.clkmode := rfl
@[simp] theorem startCycle_idle (r : Regs) (c : Config) : (startCycle c r).idle = r.idle := rfl
@[simp] theorem startCycle_secMark (r : Regs) (c : Config) : (startCycle c r).secMark = r.secMark := rfl
@[simp] theorem startCycle_rstate (r : Regs) (c : Config) : (startCycle c r).rstate = .trig := rfl
@[simp] theorem startCycle_tMark (r : Regs) (c : Config) : (startCycle c r).tMark = nowUs c r := rfl
@[simp] theorem startCycle_tRise (r : Regs) (c : Config) : (startCycle c r).tRise = r.tRise := rfl
@[simp] theorem startCycle_trig (r : Regs) (c : Config) : (startCycle c r).trig = true := rfl
@[simp] theorem startCycle_status (r : Regs) (c : Config) : (startCycle c r).status = false := rfl
@[simp] theorem startCycle_dist (r : Regs) (c : Config) : (startCycle c r).dist = r.dist := rfl
@[simp] theorem startCycle_distValid (r : Regs) (c : Config) : (startCycle c r).distValid = r.distValid := rfl
@[simp] theorem startCycle_rres (r : Regs) (c : Config) : (startCycle c r).rres = r.rres := rfl
@[simp] theorem startCycle_mainmode (r : Regs) (c : Config) : (startCycle c r).mainmode = r.mainmode := rfl
@[simp] theorem startCycle_ph (r : Regs) (c : Config) : (startCycle c r).ph = r.ph := rfl

/-! ### noSample -/

@[simp] theorem noSample_tcnt (r : Regs) (c : Config) (why : RRes) : (noSample c r why).tcnt = r.tcnt := rfl
@[simp] theorem noSample_mono (r : Regs) (c : Config) (why : RRes) : (noSample c r why).mono = r.mono := rfl
@[simp] theorem noSample_ovfPend (r : Regs) (c : Config) (why : RRes) : (noSample c r why).ovfPend = r.ovfPend := rfl
@[simp] theorem noSample_ie (r : Regs) (c : Config) (why : RRes) : (noSample c r why).ie = r.ie := rfl
@[simp] theorem noSample_lMode (r : Regs) (c : Config) (why : RRes) : (noSample c r why).lMode = r.lMode := rfl
@[simp] theorem noSample_lInc (r : Regs) (c : Config) (why : RRes) : (noSample c r why).lInc = r.lInc := rfl
@[simp] theorem noSample_lDec (r : Regs) (c : Config) (why : RRes) : (noSample c r why).lDec = r.lDec := rfl
@[simp] theorem noSample_hh (r : Regs) (c : Config) (why : RRes) : (noSample c r why).hh = r.hh := rfl
@[simp] theorem noSample_mm (r : Regs) (c : Config) (why : RRes) : (noSample c r why).mm = r.mm := rfl
@[simp] theorem noSample_ss (r : Regs) (c : Config) (why : RRes) : (noSample c r why).ss = r.ss := rfl
@[simp] theorem noSample_clkmode (r : Regs) (c : Config) (why : RRes) : (noSample c r why).clkmode = r.clkmode := rfl
@[simp] theorem noSample_idle (r : Regs) (c : Config) (why : RRes) : (noSample c r why).idle = r.idle := rfl
@[simp] theorem noSample_secMark (r : Regs) (c : Config) (why : RRes) : (noSample c r why).secMark = r.secMark := rfl
@[simp] theorem noSample_rstate (r : Regs) (c : Config) (why : RRes) : (noSample c r why).rstate = .recov := rfl
@[simp] theorem noSample_tMark (r : Regs) (c : Config) (why : RRes) : (noSample c r why).tMark = nowUs c r := rfl
@[simp] theorem noSample_tRise (r : Regs) (c : Config) (why : RRes) : (noSample c r why).tRise = r.tRise := rfl
@[simp] theorem noSample_trig (r : Regs) (c : Config) (why : RRes) : (noSample c r why).trig = r.trig := rfl
@[simp] theorem noSample_status (r : Regs) (c : Config) (why : RRes) : (noSample c r why).status = r.status := rfl
@[simp] theorem noSample_dist (r : Regs) (c : Config) (why : RRes) : (noSample c r why).dist = r.dist := rfl
@[simp] theorem noSample_distValid (r : Regs) (c : Config) (why : RRes) : (noSample c r why).distValid = r.distValid := rfl
@[simp] theorem noSample_rres (r : Regs) (c : Config) (why : RRes) : (noSample c r why).rres = why := rfl
@[simp] theorem noSample_mainmode (r : Regs) (c : Config) (why : RRes) : (noSample c r why).mainmode = r.mainmode := rfl
@[simp] theorem noSample_ph (r : Regs) (c : Config) (why : RRes) : (noSample c r why).ph = r.ph := rfl

/-! ### takeSample -/

@[simp] theorem takeSample_tcnt (r : Regs) (c : Config) : (takeSample c r).tcnt = r.tcnt := rfl
@[simp] theorem takeSample_mono (r : Regs) (c : Config) : (takeSample c r).mono = r.mono := rfl
@[simp] theorem takeSample_ovfPend (r : Regs) (c : Config) : (takeSample c r).ovfPend = r.ovfPend := rfl
@[simp] theorem takeSample_ie (r : Regs) (c : Config) : (takeSample c r).ie = r.ie := rfl
@[simp] theorem takeSample_lMode (r : Regs) (c : Config) : (takeSample c r).lMode = r.lMode := rfl
@[simp] theorem takeSample_lInc (r : Regs) (c : Config) : (takeSample c r).lInc = r.lInc := rfl
@[simp] theorem takeSample_lDec (r : Regs) (c : Config) : (takeSample c r).lDec = r.lDec := rfl
@[simp] theorem takeSample_hh (r : Regs) (c : Config) : (takeSample c r).hh = r.hh := rfl
@[simp] theorem takeSample_mm (r : Regs) (c : Config) : (takeSample c r).mm = r.mm := rfl
@[simp] theorem takeSample_ss (r : Regs) (c : Config) : (takeSample c r).ss = r.ss := rfl
@[simp] theorem takeSample_clkmode (r : Regs) (c : Config) : (takeSample c r).clkmode = r.clkmode := rfl
@[simp] theorem takeSample_idle (r : Regs) (c : Config) : (takeSample c r).idle = r.idle := rfl
@[simp] theorem takeSample_secMark (r : Regs) (c : Config) : (takeSample c r).secMark = r.secMark := rfl
@[simp] theorem takeSample_rstate (r : Regs) (c : Config) : (takeSample c r).rstate = .recov := rfl
@[simp] theorem takeSample_tMark (r : Regs) (c : Config) : (takeSample c r).tMark = nowUs c r := rfl
@[simp] theorem takeSample_tRise (r : Regs) (c : Config) : (takeSample c r).tRise = r.tRise := rfl
@[simp] theorem takeSample_trig (r : Regs) (c : Config) : (takeSample c r).trig = r.trig := rfl
@[simp] theorem takeSample_status (r : Regs) (c : Config) : (takeSample c r).status = r.status := rfl
@[simp] theorem takeSample_dist (r : Regs) (c : Config) : (takeSample c r).dist = distOfWidth c (echoWidth c r) % 2 ^ c.distW := rfl
@[simp] theorem takeSample_distValid (r : Regs) (c : Config) : (takeSample c r).distValid = true := rfl
@[simp] theorem takeSample_rres (r : Regs) (c : Config) : (takeSample c r).rres = .ok := rfl
@[simp] theorem takeSample_mainmode (r : Regs) (c : Config) : (takeSample c r).mainmode = r.mainmode := rfl
@[simp] theorem takeSample_ph (r : Regs) (c : Config) : (takeSample c r).ph = r.ph := rfl

end Sys2Proof.Machine
end

