-- ==== Sys2Proof/Laws/Frames.lean ====
section
/-! SUPPORT. The frames of the operations that branch: one lemma per field that no branch of the operation writes. -/

namespace Sys2Proof.Machine

/-! ### countTimer -/

@[simp] theorem countTimer_mono (c : Config) (r : Regs) : (countTimer c r).mono = r.mono := by
  unfold countTimer; repeat' split
  all_goals rfl
@[simp] theorem countTimer_ie (c : Config) (r : Regs) : (countTimer c r).ie = r.ie := by
  unfold countTimer; repeat' split
  all_goals rfl
@[simp] theorem countTimer_lMode (c : Config) (r : Regs) : (countTimer c r).lMode = r.lMode := by
  unfold countTimer; repeat' split
  all_goals rfl
@[simp] theorem countTimer_lInc (c : Config) (r : Regs) : (countTimer c r).lInc = r.lInc := by
  unfold countTimer; repeat' split
  all_goals rfl
@[simp] theorem countTimer_lDec (c : Config) (r : Regs) : (countTimer c r).lDec = r.lDec := by
  unfold countTimer; repeat' split
  all_goals rfl
@[simp] theorem countTimer_hh (c : Config) (r : Regs) : (countTimer c r).hh = r.hh := by
  unfold countTimer; repeat' split
  all_goals rfl
@[simp] theorem countTimer_mm (c : Config) (r : Regs) : (countTimer c r).mm = r.mm := by
  unfold countTimer; repeat' split
  all_goals rfl
@[simp] theorem countTimer_ss (c : Config) (r : Regs) : (countTimer c r).ss = r.ss := by
  unfold countTimer; repeat' split
  all_goals rfl
@[simp] theorem countTimer_clkmode (c : Config) (r : Regs) : (countTimer c r).clkmode = r.clkmode := by
  unfold countTimer; repeat' split
  all_goals rfl
@[simp] theorem countTimer_idle (c : Config) (r : Regs) : (countTimer c r).idle = r.idle := by
  unfold countTimer; repeat' split
  all_goals rfl
@[simp] theorem countTimer_secMark (c : Config) (r : Regs) : (countTimer c r).secMark = r.secMark := by
  unfold countTimer; repeat' split
  all_goals rfl
@[simp] theorem countTimer_rstate (c : Config) (r : Regs) : (countTimer c r).rstate = r.rstate := by
  unfold countTimer; repeat' split
  all_goals rfl
@[simp] theorem countTimer_tMark (c : Config) (r : Regs) : (countTimer c r).tMark = r.tMark := by
  unfold countTimer; repeat' split
  all_goals rfl
@[simp] theorem countTimer_tRise (c : Config) (r : Regs) : (countTimer c r).tRise = r.tRise := by
  unfold countTimer; repeat' split
  all_goals rfl
@[simp] theorem countTimer_trig (c : Config) (r : Regs) : (countTimer c r).trig = r.trig := by
  unfold countTimer; repeat' split
  all_goals rfl
@[simp] theorem countTimer_status (c : Config) (r : Regs) : (countTimer c r).status = r.status := by
  unfold countTimer; repeat' split
  all_goals rfl
@[simp] theorem countTimer_dist (c : Config) (r : Regs) : (countTimer c r).dist = r.dist := by
  unfold countTimer; repeat' split
  all_goals rfl
@[simp] theorem countTimer_distValid (c : Config) (r : Regs) : (countTimer c r).distValid = r.distValid := by
  unfold countTimer; repeat' split
  all_goals rfl
@[simp] theorem countTimer_rres (c : Config) (r : Regs) : (countTimer c r).rres = r.rres := by
  unfold countTimer; repeat' split
  all_goals rfl
@[simp] theorem countTimer_mainmode (c : Config) (r : Regs) : (countTimer c r).mainmode = r.mainmode := by
  unfold countTimer; repeat' split
  all_goals rfl
@[simp] theorem countTimer_ph (c : Config) (r : Regs) : (countTimer c r).ph = r.ph := by
  unfold countTimer; repeat' split
  all_goals rfl

/-! ### advanceTime -/

@[simp] theorem advanceTime_tcnt (r : Regs) : (advanceTime r).tcnt = r.tcnt := by
  unfold advanceTime; repeat' split
  all_goals rfl
@[simp] theorem advanceTime_mono (r : Regs) : (advanceTime r).mono = r.mono := by
  unfold advanceTime; repeat' split
  all_goals rfl
@[simp] theorem advanceTime_ovfPend (r : Regs) : (advanceTime r).ovfPend = r.ovfPend := by
  unfold advanceTime; repeat' split
  all_goals rfl
@[simp] theorem advanceTime_ie (r : Regs) : (advanceTime r).ie = r.ie := by
  unfold advanceTime; repeat' split
  all_goals rfl
@[simp] theorem advanceTime_lMode (r : Regs) : (advanceTime r).lMode = r.lMode := by
  unfold advanceTime; repeat' split
  all_goals rfl
@[simp] theorem advanceTime_lInc (r : Regs) : (advanceTime r).lInc = r.lInc := by
  unfold advanceTime; repeat' split
  all_goals rfl
@[simp] theorem advanceTime_lDec (r : Regs) : (advanceTime r).lDec = r.lDec := by
  unfold advanceTime; repeat' split
  all_goals rfl
@[simp] theorem advanceTime_clkmode (r : Regs) : (advanceTime r).clkmode = r.clkmode := by
  unfold advanceTime; repeat' split
  all_goals rfl
@[simp] theorem advanceTime_idle (r : Regs) : (advanceTime r).idle = r.idle := by
  unfold advanceTime; repeat' split
  all_goals rfl
@[simp] theorem advanceTime_secMark (r : Regs) : (advanceTime r).secMark = r.secMark := by
  unfold advanceTime; repeat' split
  all_goals rfl
@[simp] theorem advanceTime_rstate (r : Regs) : (advanceTime r).rstate = r.rstate := by
  unfold advanceTime; repeat' split
  all_goals rfl
@[simp] theorem advanceTime_tMark (r : Regs) : (advanceTime r).tMark = r.tMark := by
  unfold advanceTime; repeat' split
  all_goals rfl
@[simp] theorem advanceTime_tRise (r : Regs) : (advanceTime r).tRise = r.tRise := by
  unfold advanceTime; repeat' split
  all_goals rfl
@[simp] theorem advanceTime_trig (r : Regs) : (advanceTime r).trig = r.trig := by
  unfold advanceTime; repeat' split
  all_goals rfl
@[simp] theorem advanceTime_status (r : Regs) : (advanceTime r).status = r.status := by
  unfold advanceTime; repeat' split
  all_goals rfl
@[simp] theorem advanceTime_dist (r : Regs) : (advanceTime r).dist = r.dist := by
  unfold advanceTime; repeat' split
  all_goals rfl
@[simp] theorem advanceTime_distValid (r : Regs) : (advanceTime r).distValid = r.distValid := by
  unfold advanceTime; repeat' split
  all_goals rfl
@[simp] theorem advanceTime_rres (r : Regs) : (advanceTime r).rres = r.rres := by
  unfold advanceTime; repeat' split
  all_goals rfl
@[simp] theorem advanceTime_mainmode (r : Regs) : (advanceTime r).mainmode = r.mainmode := by
  unfold advanceTime; repeat' split
  all_goals rfl
@[simp] theorem advanceTime_ph (r : Regs) : (advanceTime r).ph = r.ph := by
  unfold advanceTime; repeat' split
  all_goals rfl

/-! ### idleSecond -/

@[simp] theorem idleSecond_tcnt (c : Config) (r : Regs) : (idleSecond c r).tcnt = r.tcnt := by
  unfold idleSecond; repeat' split
  all_goals rfl
@[simp] theorem idleSecond_mono (c : Config) (r : Regs) : (idleSecond c r).mono = r.mono := by
  unfold idleSecond; repeat' split
  all_goals rfl
@[simp] theorem idleSecond_ovfPend (c : Config) (r : Regs) : (idleSecond c r).ovfPend = r.ovfPend := by
  unfold idleSecond; repeat' split
  all_goals rfl
@[simp] theorem idleSecond_ie (c : Config) (r : Regs) : (idleSecond c r).ie = r.ie := by
  unfold idleSecond; repeat' split
  all_goals rfl
@[simp] theorem idleSecond_lMode (c : Config) (r : Regs) : (idleSecond c r).lMode = r.lMode := by
  unfold idleSecond; repeat' split
  all_goals rfl
@[simp] theorem idleSecond_lInc (c : Config) (r : Regs) : (idleSecond c r).lInc = r.lInc := by
  unfold idleSecond; repeat' split
  all_goals rfl
@[simp] theorem idleSecond_lDec (c : Config) (r : Regs) : (idleSecond c r).lDec = r.lDec := by
  unfold idleSecond; repeat' split
  all_goals rfl
@[simp] theorem idleSecond_hh (c : Config) (r : Regs) : (idleSecond c r).hh = r.hh := by
  unfold idleSecond; repeat' split
  all_goals rfl
@[simp] theorem idleSecond_mm (c : Config) (r : Regs) : (idleSecond c r).mm = r.mm := by
  unfold idleSecond; repeat' split
  all_goals rfl
@[simp] theorem idleSecond_ss (c : Config) (r : Regs) : (idleSecond c r).ss = r.ss := by
  unfold idleSecond; repeat' split
  all_goals rfl
@[simp] theorem idleSecond_secMark (c : Config) (r : Regs) : (idleSecond c r).secMark = r.secMark := by
  unfold idleSecond; repeat' split
  all_goals rfl
@[simp] theorem idleSecond_rstate (c : Config) (r : Regs) : (idleSecond c r).rstate = r.rstate := by
  unfold idleSecond; repeat' split
  all_goals rfl
@[simp] theorem idleSecond_tMark (c : Config) (r : Regs) : (idleSecond c r).tMark = r.tMark := by
  unfold idleSecond; repeat' split
  all_goals rfl
@[simp] theorem idleSecond_tRise (c : Config) (r : Regs) : (idleSecond c r).tRise = r.tRise := by
  unfold idleSecond; repeat' split
  all_goals rfl
@[simp] theorem idleSecond_trig (c : Config) (r : Regs) : (idleSecond c r).trig = r.trig := by
  unfold idleSecond; repeat' split
  all_goals rfl
@[simp] theorem idleSecond_status (c : Config) (r : Regs) : (idleSecond c r).status = r.status := by
  unfold idleSecond; repeat' split
  all_goals rfl
@[simp] theorem idleSecond_dist (c : Config) (r : Regs) : (idleSecond c r).dist = r.dist := by
  unfold idleSecond; repeat' split
  all_goals rfl
@[simp] theorem idleSecond_distValid (c : Config) (r : Regs) : (idleSecond c r).distValid = r.distValid := by
  unfold idleSecond; repeat' split
  all_goals rfl
@[simp] theorem idleSecond_rres (c : Config) (r : Regs) : (idleSecond c r).rres = r.rres := by
  unfold idleSecond; repeat' split
  all_goals rfl
@[simp] theorem idleSecond_mainmode (c : Config) (r : Regs) : (idleSecond c r).mainmode = r.mainmode := by
  unfold idleSecond; repeat' split
  all_goals rfl
@[simp] theorem idleSecond_ph (c : Config) (r : Regs) : (idleSecond c r).ph = r.ph := by
  unfold idleSecond; repeat' split
  all_goals rfl

/-! ### applySecond -/

@[simp] theorem applySecond_tcnt (c : Config) (r : Regs) : (applySecond c r).tcnt = r.tcnt := by
  unfold applySecond; split <;> simp
@[simp] theorem applySecond_mono (c : Config) (r : Regs) : (applySecond c r).mono = r.mono := by
  unfold applySecond; split <;> simp
@[simp] theorem applySecond_ovfPend (c : Config) (r : Regs) : (applySecond c r).ovfPend = r.ovfPend := by
  unfold applySecond; split <;> simp
@[simp] theorem applySecond_ie (c : Config) (r : Regs) : (applySecond c r).ie = r.ie := by
  unfold applySecond; split <;> simp
@[simp] theorem applySecond_lMode (c : Config) (r : Regs) : (applySecond c r).lMode = r.lMode := by
  unfold applySecond; split <;> simp
@[simp] theorem applySecond_lInc (c : Config) (r : Regs) : (applySecond c r).lInc = r.lInc := by
  unfold applySecond; split <;> simp
@[simp] theorem applySecond_lDec (c : Config) (r : Regs) : (applySecond c r).lDec = r.lDec := by
  unfold applySecond; split <;> simp
@[simp] theorem applySecond_secMark (c : Config) (r : Regs) : (applySecond c r).secMark = r.secMark := by
  unfold applySecond; split <;> simp
@[simp] theorem applySecond_rstate (c : Config) (r : Regs) : (applySecond c r).rstate = r.rstate := by
  unfold applySecond; split <;> simp
@[simp] theorem applySecond_tMark (c : Config) (r : Regs) : (applySecond c r).tMark = r.tMark := by
  unfold applySecond; split <;> simp
@[simp] theorem applySecond_tRise (c : Config) (r : Regs) : (applySecond c r).tRise = r.tRise := by
  unfold applySecond; split <;> simp
@[simp] theorem applySecond_trig (c : Config) (r : Regs) : (applySecond c r).trig = r.trig := by
  unfold applySecond; split <;> simp
@[simp] theorem applySecond_status (c : Config) (r : Regs) : (applySecond c r).status = r.status := by
  unfold applySecond; split <;> simp
@[simp] theorem applySecond_dist (c : Config) (r : Regs) : (applySecond c r).dist = r.dist := by
  unfold applySecond; split <;> simp
@[simp] theorem applySecond_distValid (c : Config) (r : Regs) : (applySecond c r).distValid = r.distValid := by
  unfold applySecond; split <;> simp
@[simp] theorem applySecond_rres (c : Config) (r : Regs) : (applySecond c r).rres = r.rres := by
  unfold applySecond; split <;> simp
@[simp] theorem applySecond_mainmode (c : Config) (r : Regs) : (applySecond c r).mainmode = r.mainmode := by
  unfold applySecond; split <;> simp
@[simp] theorem applySecond_ph (c : Config) (r : Regs) : (applySecond c r).ph = r.ph := by
  unfold applySecond; split <;> simp

/-! ### remark -/

@[simp] theorem remark_tcnt (c : Config) (r : Regs) : (remark c r).tcnt = r.tcnt := by
  unfold remark; split <;> rfl
@[simp] theorem remark_mono (c : Config) (r : Regs) : (remark c r).mono = r.mono := by
  unfold remark; split <;> rfl
@[simp] theorem remark_ovfPend (c : Config) (r : Regs) : (remark c r).ovfPend = r.ovfPend := by
  unfold remark; split <;> rfl
@[simp] theorem remark_ie (c : Config) (r : Regs) : (remark c r).ie = r.ie := by
  unfold remark; split <;> rfl
@[simp] theorem remark_lMode (c : Config) (r : Regs) : (remark c r).lMode = r.lMode := by
  unfold remark; split <;> rfl
@[simp] theorem remark_lInc (c : Config) (r : Regs) : (remark c r).lInc = r.lInc := by
  unfold remark; split <;> rfl
@[simp] theorem remark_lDec (c : Config) (r : Regs) : (remark c r).lDec = r.lDec := by
  unfold remark; split <;> rfl
@[simp] theorem remark_hh (c : Config) (r : Regs) : (remark c r).hh = r.hh := by
  unfold remark; split <;> rfl
@[simp] theorem remark_mm (c : Config) (r : Regs) : (remark c r).mm = r.mm := by
  unfold remark; split <;> rfl
@[simp] theorem remark_ss (c : Config) (r : Regs) : (remark c r).ss = r.ss := by
  unfold remark; split <;> rfl
@[simp] theorem remark_clkmode (c : Config) (r : Regs) : (remark c r).clkmode = r.clkmode := by
  unfold remark; split <;> rfl
@[simp] theorem remark_idle (c : Config) (r : Regs) : (remark c r).idle = r.idle := by
  unfold remark; split <;> rfl
@[simp] theorem remark_rstate (c : Config) (r : Regs) : (remark c r).rstate = r.rstate := by
  unfold remark; split <;> rfl
@[simp] theorem remark_tMark (c : Config) (r : Regs) : (remark c r).tMark = r.tMark := by
  unfold remark; split <;> rfl
@[simp] theorem remark_tRise (c : Config) (r : Regs) : (remark c r).tRise = r.tRise := by
  unfold remark; split <;> rfl
@[simp] theorem remark_trig (c : Config) (r : Regs) : (remark c r).trig = r.trig := by
  unfold remark; split <;> rfl
@[simp] theorem remark_status (c : Config) (r : Regs) : (remark c r).status = r.status := by
  unfold remark; split <;> rfl
@[simp] theorem remark_dist (c : Config) (r : Regs) : (remark c r).dist = r.dist := by
  unfold remark; split <;> rfl
@[simp] theorem remark_distValid (c : Config) (r : Regs) : (remark c r).distValid = r.distValid := by
  unfold remark; split <;> rfl
@[simp] theorem remark_rres (c : Config) (r : Regs) : (remark c r).rres = r.rres := by
  unfold remark; split <;> rfl
@[simp] theorem remark_mainmode (c : Config) (r : Regs) : (remark c r).mainmode = r.mainmode := by
  unfold remark; split <;> rfl
@[simp] theorem remark_ph (c : Config) (r : Regs) : (remark c r).ph = r.ph := by
  unfold remark; split <;> rfl

/-! ### incEdge -/

@[simp] theorem incEdge_tcnt (r : Regs) : (incEdge r).tcnt = r.tcnt := by
  unfold incEdge; split <;> rfl
@[simp] theorem incEdge_mono (r : Regs) : (incEdge r).mono = r.mono := by
  unfold incEdge; split <;> rfl
@[simp] theorem incEdge_ovfPend (r : Regs) : (incEdge r).ovfPend = r.ovfPend := by
  unfold incEdge; split <;> rfl
@[simp] theorem incEdge_ie (r : Regs) : (incEdge r).ie = r.ie := by
  unfold incEdge; split <;> rfl
@[simp] theorem incEdge_lMode (r : Regs) : (incEdge r).lMode = r.lMode := by
  unfold incEdge; split <;> rfl
@[simp] theorem incEdge_lInc (r : Regs) : (incEdge r).lInc = r.lInc := by
  unfold incEdge; split <;> rfl
@[simp] theorem incEdge_lDec (r : Regs) : (incEdge r).lDec = r.lDec := by
  unfold incEdge; split <;> rfl
@[simp] theorem incEdge_ss (r : Regs) : (incEdge r).ss = r.ss := by
  unfold incEdge; split <;> rfl
@[simp] theorem incEdge_clkmode (r : Regs) : (incEdge r).clkmode = r.clkmode := by
  unfold incEdge; split <;> rfl
@[simp] theorem incEdge_secMark (r : Regs) : (incEdge r).secMark = r.secMark := by
  unfold incEdge; split <;> rfl
@[simp] theorem incEdge_rstate (r : Regs) : (incEdge r).rstate = r.rstate := by
  unfold incEdge; split <;> rfl
@[simp] theorem incEdge_tMark (r : Regs) : (incEdge r).tMark = r.tMark := by
  unfold incEdge; split <;> rfl
@[simp] theorem incEdge_tRise (r : Regs) : (incEdge r).tRise = r.tRise := by
  unfold incEdge; split <;> rfl
@[simp] theorem incEdge_trig (r : Regs) : (incEdge r).trig = r.trig := by
  unfold incEdge; split <;> rfl
@[simp] theorem incEdge_status (r : Regs) : (incEdge r).status = r.status := by
  unfold incEdge; split <;> rfl
@[simp] theorem incEdge_dist (r : Regs) : (incEdge r).dist = r.dist := by
  unfold incEdge; split <;> rfl
@[simp] theorem incEdge_distValid (r : Regs) : (incEdge r).distValid = r.distValid := by
  unfold incEdge; split <;> rfl
@[simp] theorem incEdge_rres (r : Regs) : (incEdge r).rres = r.rres := by
  unfold incEdge; split <;> rfl
@[simp] theorem incEdge_mainmode (r : Regs) : (incEdge r).mainmode = r.mainmode := by
  unfold incEdge; split <;> rfl
@[simp] theorem incEdge_ph (r : Regs) : (incEdge r).ph = r.ph := by
  unfold incEdge; split <;> rfl

/-! ### decEdge -/

@[simp] theorem decEdge_tcnt (r : Regs) : (decEdge r).tcnt = r.tcnt := by
  unfold decEdge; split <;> rfl
@[simp] theorem decEdge_mono (r : Regs) : (decEdge r).mono = r.mono := by
  unfold decEdge; split <;> rfl
@[simp] theorem decEdge_ovfPend (r : Regs) : (decEdge r).ovfPend = r.ovfPend := by
  unfold decEdge; split <;> rfl
@[simp] theorem decEdge_ie (r : Regs) : (decEdge r).ie = r.ie := by
  unfold decEdge; split <;> rfl
@[simp] theorem decEdge_lMode (r : Regs) : (decEdge r).lMode = r.lMode := by
  unfold decEdge; split <;> rfl
@[simp] theorem decEdge_lInc (r : Regs) : (decEdge r).lInc = r.lInc := by
  unfold decEdge; split <;> rfl
@[simp] theorem decEdge_lDec (r : Regs) : (decEdge r).lDec = r.lDec := by
  unfold decEdge; split <;> rfl
@[simp] theorem decEdge_ss (r : Regs) : (decEdge r).ss = r.ss := by
  unfold decEdge; split <;> rfl
@[simp] theorem decEdge_clkmode (r : Regs) : (decEdge r).clkmode = r.clkmode := by
  unfold decEdge; split <;> rfl
@[simp] theorem decEdge_secMark (r : Regs) : (decEdge r).secMark = r.secMark := by
  unfold decEdge; split <;> rfl
@[simp] theorem decEdge_rstate (r : Regs) : (decEdge r).rstate = r.rstate := by
  unfold decEdge; split <;> rfl
@[simp] theorem decEdge_tMark (r : Regs) : (decEdge r).tMark = r.tMark := by
  unfold decEdge; split <;> rfl
@[simp] theorem decEdge_tRise (r : Regs) : (decEdge r).tRise = r.tRise := by
  unfold decEdge; split <;> rfl
@[simp] theorem decEdge_trig (r : Regs) : (decEdge r).trig = r.trig := by
  unfold decEdge; split <;> rfl
@[simp] theorem decEdge_status (r : Regs) : (decEdge r).status = r.status := by
  unfold decEdge; split <;> rfl
@[simp] theorem decEdge_dist (r : Regs) : (decEdge r).dist = r.dist := by
  unfold decEdge; split <;> rfl
@[simp] theorem decEdge_distValid (r : Regs) : (decEdge r).distValid = r.distValid := by
  unfold decEdge; split <;> rfl
@[simp] theorem decEdge_rres (r : Regs) : (decEdge r).rres = r.rres := by
  unfold decEdge; split <;> rfl
@[simp] theorem decEdge_mainmode (r : Regs) : (decEdge r).mainmode = r.mainmode := by
  unfold decEdge; split <;> rfl
@[simp] theorem decEdge_ph (r : Regs) : (decEdge r).ph = r.ph := by
  unfold decEdge; split <;> rfl

/-! ### dispatchEdge -/

@[simp] theorem dispatchEdge_tcnt (c : Config) (e : ButtonId) (r : Regs) : (dispatchEdge c e r).tcnt = r.tcnt := by
  unfold dispatchEdge; repeat' split
  all_goals simp
@[simp] theorem dispatchEdge_mono (c : Config) (e : ButtonId) (r : Regs) : (dispatchEdge c e r).mono = r.mono := by
  unfold dispatchEdge; repeat' split
  all_goals simp
@[simp] theorem dispatchEdge_ovfPend (c : Config) (e : ButtonId) (r : Regs) : (dispatchEdge c e r).ovfPend = r.ovfPend := by
  unfold dispatchEdge; repeat' split
  all_goals simp
@[simp] theorem dispatchEdge_ie (c : Config) (e : ButtonId) (r : Regs) : (dispatchEdge c e r).ie = r.ie := by
  unfold dispatchEdge; repeat' split
  all_goals simp
@[simp] theorem dispatchEdge_lMode (c : Config) (e : ButtonId) (r : Regs) : (dispatchEdge c e r).lMode = r.lMode := by
  unfold dispatchEdge; repeat' split
  all_goals simp
@[simp] theorem dispatchEdge_lInc (c : Config) (e : ButtonId) (r : Regs) : (dispatchEdge c e r).lInc = r.lInc := by
  unfold dispatchEdge; repeat' split
  all_goals simp
@[simp] theorem dispatchEdge_lDec (c : Config) (e : ButtonId) (r : Regs) : (dispatchEdge c e r).lDec = r.lDec := by
  unfold dispatchEdge; repeat' split
  all_goals simp
@[simp] theorem dispatchEdge_ss (c : Config) (e : ButtonId) (r : Regs) : (dispatchEdge c e r).ss = r.ss := by
  unfold dispatchEdge; repeat' split
  all_goals simp
@[simp] theorem dispatchEdge_secMark (c : Config) (e : ButtonId) (r : Regs) : (dispatchEdge c e r).secMark = r.secMark := by
  unfold dispatchEdge; repeat' split
  all_goals simp
@[simp] theorem dispatchEdge_rstate (c : Config) (e : ButtonId) (r : Regs) : (dispatchEdge c e r).rstate = r.rstate := by
  unfold dispatchEdge; repeat' split
  all_goals simp
@[simp] theorem dispatchEdge_tMark (c : Config) (e : ButtonId) (r : Regs) : (dispatchEdge c e r).tMark = r.tMark := by
  unfold dispatchEdge; repeat' split
  all_goals simp
@[simp] theorem dispatchEdge_tRise (c : Config) (e : ButtonId) (r : Regs) : (dispatchEdge c e r).tRise = r.tRise := by
  unfold dispatchEdge; repeat' split
  all_goals simp
@[simp] theorem dispatchEdge_trig (c : Config) (e : ButtonId) (r : Regs) : (dispatchEdge c e r).trig = r.trig := by
  unfold dispatchEdge; repeat' split
  all_goals simp
@[simp] theorem dispatchEdge_status (c : Config) (e : ButtonId) (r : Regs) : (dispatchEdge c e r).status = r.status := by
  unfold dispatchEdge; repeat' split
  all_goals simp
@[simp] theorem dispatchEdge_dist (c : Config) (e : ButtonId) (r : Regs) : (dispatchEdge c e r).dist = r.dist := by
  unfold dispatchEdge; repeat' split
  all_goals simp
@[simp] theorem dispatchEdge_distValid (c : Config) (e : ButtonId) (r : Regs) : (dispatchEdge c e r).distValid = r.distValid := by
  unfold dispatchEdge; repeat' split
  all_goals simp
@[simp] theorem dispatchEdge_rres (c : Config) (e : ButtonId) (r : Regs) : (dispatchEdge c e r).rres = r.rres := by
  unfold dispatchEdge; repeat' split
  all_goals simp
@[simp] theorem dispatchEdge_mainmode (c : Config) (e : ButtonId) (r : Regs) : (dispatchEdge c e r).mainmode = r.mainmode := by
  unfold dispatchEdge; repeat' split
  all_goals simp
@[simp] theorem dispatchEdge_ph (c : Config) (e : ButtonId) (r : Regs) : (dispatchEdge c e r).ph = r.ph := by
  unfold dispatchEdge; repeat' split
  all_goals simp

/-! ### pollTrigger -/

@[simp] theorem pollTrigger_tcnt (c : Config) (r : Regs) : (pollTrigger c r).tcnt = r.tcnt := by
  unfold pollTrigger; split <;> rfl
@[simp] theorem pollTrigger_mono (c : Config) (r : Regs) : (pollTrigger c r).mono = r.mono := by
  unfold pollTrigger; split <;> rfl
@[simp] theorem pollTrigger_ovfPend (c : Config) (r : Regs) : (pollTrigger c r).ovfPend = r.ovfPend := by
  unfold pollTrigger; split <;> rfl
@[simp] theorem pollTrigger_ie (c : Config) (r : Regs) : (pollTrigger c r).ie = r.ie := by
  unfold pollTrigger; split <;> rfl
@[simp] theorem pollTrigger_lMode (c : Config) (r : Regs) : (pollTrigger c r).lMode = r.lMode := by
  unfold pollTrigger; split <;> rfl
@[simp] theorem pollTrigger_lInc (c : Config) (r : Regs) : (pollTrigger c r).lInc = r.lInc := by
  unfold pollTrigger; split <;> rfl
@[simp] theorem pollTrigger_lDec (c : Config) (r : Regs) : (pollTrigger c r).lDec = r.lDec := by
  unfold pollTrigger; split <;> rfl
@[simp] theorem pollTrigger_hh (c : Config) (r : Regs) : (pollTrigger c r).hh = r.hh := by
  unfold pollTrigger; split <;> rfl
@[simp] theorem pollTrigger_mm (c : Config) (r : Regs) : (pollTrigger c r).mm = r.mm := by
  unfold pollTrigger; split <;> rfl
@[simp] theorem pollTrigger_ss (c : Config) (r : Regs) : (pollTrigger c r).ss = r.ss := by
  unfold pollTrigger; split <;> rfl
@[simp] theorem pollTrigger_clkmode (c : Config) (r : Regs) : (pollTrigger c r).clkmode = r.clkmode := by
  unfold pollTrigger; split <;> rfl
@[simp] theorem pollTrigger_idle (c : Config) (r : Regs) : (pollTrigger c r).idle = r.idle := by
  unfold pollTrigger; split <;> rfl
@[simp] theorem pollTrigger_secMark (c : Config) (r : Regs) : (pollTrigger c r).secMark = r.secMark := by
  unfold pollTrigger; split <;> rfl
@[simp] theorem pollTrigger_tRise (c : Config) (r : Regs) : (pollTrigger c r).tRise = r.tRise := by
  unfold pollTrigger; split <;> rfl
@[simp] theorem pollTrigger_status (c : Config) (r : Regs) : (pollTrigger c r).status = r.status := by
  unfold pollTrigger; split <;> rfl
@[simp] theorem pollTrigger_dist (c : Config) (r : Regs) : (pollTrigger c r).dist = r.dist := by
  unfold pollTrigger; split <;> rfl
@[simp] theorem pollTrigger_distValid (c : Config) (r : Regs) : (pollTrigger c r).distValid = r.distValid := by
  unfold pollTrigger; split <;> rfl
@[simp] theorem pollTrigger_rres (c : Config) (r : Regs) : (pollTrigger c r).rres = r.rres := by
  unfold pollTrigger; split <;> rfl
@[simp] theorem pollTrigger_mainmode (c : Config) (r : Regs) : (pollTrigger c r).mainmode = r.mainmode := by
  unfold pollTrigger; split <;> rfl
@[simp] theorem pollTrigger_ph (c : Config) (r : Regs) : (pollTrigger c r).ph = r.ph := by
  unfold pollTrigger; split <;> rfl

/-! ### pollRise -/

@[simp] theorem pollRise_tcnt (c : Config) (r : Regs) (lvl : Bool) : (pollRise c r lvl).tcnt = r.tcnt := by
  unfold pollRise; repeat' split
  all_goals rfl
@[simp] theorem pollRise_mono (c : Config) (r : Regs) (lvl : Bool) : (pollRise c r lvl).mono = r.mono := by
  unfold pollRise; repeat' split
  all_goals rfl
@[simp] theorem pollRise_ovfPend (c : Config) (r : Regs) (lvl : Bool) : (pollRise c r lvl).ovfPend = r.ovfPend := by
  unfold pollRise; repeat' split
  all_goals rfl
@[simp] theorem pollRise_ie (c : Config) (r : Regs) (lvl : Bool) : (pollRise c r lvl).ie = r.ie := by
  unfold pollRise; repeat' split
  all_goals rfl
@[simp] theorem pollRise_lMode (c : Config) (r : Regs) (lvl : Bool) : (pollRise c r lvl).lMode = r.lMode := by
  unfold pollRise; repeat' split
  all_goals rfl
@[simp] theorem pollRise_lInc (c : Config) (r : Regs) (lvl : Bool) : (pollRise c r lvl).lInc = r.lInc := by
  unfold pollRise; repeat' split
  all_goals rfl
@[simp] theorem pollRise_lDec (c : Config) (r : Regs) (lvl : Bool) : (pollRise c r lvl).lDec = r.lDec := by
  unfold pollRise; repeat' split
  all_goals rfl
@[simp] theorem pollRise_hh (c : Config) (r : Regs) (lvl : Bool) : (pollRise c r lvl).hh = r.hh := by
  unfold pollRise; repeat' split
  all_goals rfl
@[simp] theorem pollRise_mm (c : Config) (r : Regs) (lvl : Bool) : (pollRise c r lvl).mm = r.mm := by
  unfold pollRise; repeat' split
  all_goals rfl
@[simp] theorem pollRise_ss (c : Config) (r : Regs) (lvl : Bool) : (pollRise c r lvl).ss = r.ss := by
  unfold pollRise; repeat' split
  all_goals rfl
@[simp] theorem pollRise_clkmode (c : Config) (r : Regs) (lvl : Bool) : (pollRise c r lvl).clkmode = r.clkmode := by
  unfold pollRise; repeat' split
  all_goals rfl
@[simp] theorem pollRise_idle (c : Config) (r : Regs) (lvl : Bool) : (pollRise c r lvl).idle = r.idle := by
  unfold pollRise; repeat' split
  all_goals rfl
@[simp] theorem pollRise_secMark (c : Config) (r : Regs) (lvl : Bool) : (pollRise c r lvl).secMark = r.secMark := by
  unfold pollRise; repeat' split
  all_goals rfl
@[simp] theorem pollRise_trig (c : Config) (r : Regs) (lvl : Bool) : (pollRise c r lvl).trig = r.trig := by
  unfold pollRise; repeat' split
  all_goals rfl
@[simp] theorem pollRise_status (c : Config) (r : Regs) (lvl : Bool) : (pollRise c r lvl).status = r.status := by
  unfold pollRise; repeat' split
  all_goals rfl
@[simp] theorem pollRise_dist (c : Config) (r : Regs) (lvl : Bool) : (pollRise c r lvl).dist = r.dist := by
  unfold pollRise; repeat' split
  all_goals rfl
@[simp] theorem pollRise_distValid (c : Config) (r : Regs) (lvl : Bool) : (pollRise c r lvl).distValid = r.distValid := by
  unfold pollRise; repeat' split
  all_goals rfl
@[simp] theorem pollRise_mainmode (c : Config) (r : Regs) (lvl : Bool) : (pollRise c r lvl).mainmode = r.mainmode := by
  unfold pollRise; repeat' split
  all_goals rfl
@[simp] theorem pollRise_ph (c : Config) (r : Regs) (lvl : Bool) : (pollRise c r lvl).ph = r.ph := by
  unfold pollRise; repeat' split
  all_goals rfl

/-! ### pollFall -/

@[simp] theorem pollFall_tcnt (c : Config) (r : Regs) (lvl : Bool) : (pollFall c r lvl).tcnt = r.tcnt := by
  unfold pollFall; repeat' split
  all_goals rfl
@[simp] theorem pollFall_mono (c : Config) (r : Regs) (lvl : Bool) : (pollFall c r lvl).mono = r.mono := by
  unfold pollFall; repeat' split
  all_goals rfl
@[simp] theorem pollFall_ovfPend (c : Config) (r : Regs) (lvl : Bool) : (pollFall c r lvl).ovfPend = r.ovfPend := by
  unfold pollFall; repeat' split
  all_goals rfl
@[simp] theorem pollFall_ie (c : Config) (r : Regs) (lvl : Bool) : (pollFall c r lvl).ie = r.ie := by
  unfold pollFall; repeat' split
  all_goals rfl
@[simp] theorem pollFall_lMode (c : Config) (r : Regs) (lvl : Bool) : (pollFall c r lvl).lMode = r.lMode := by
  unfold pollFall; repeat' split
  all_goals rfl
@[simp] theorem pollFall_lInc (c : Config) (r : Regs) (lvl : Bool) : (pollFall c r lvl).lInc = r.lInc := by
  unfold pollFall; repeat' split
  all_goals rfl
@[simp] theorem pollFall_lDec (c : Config) (r : Regs) (lvl : Bool) : (pollFall c r lvl).lDec = r.lDec := by
  unfold pollFall; repeat' split
  all_goals rfl
@[simp] theorem pollFall_hh (c : Config) (r : Regs) (lvl : Bool) : (pollFall c r lvl).hh = r.hh := by
  unfold pollFall; repeat' split
  all_goals rfl
@[simp] theorem pollFall_mm (c : Config) (r : Regs) (lvl : Bool) : (pollFall c r lvl).mm = r.mm := by
  unfold pollFall; repeat' split
  all_goals rfl
@[simp] theorem pollFall_ss (c : Config) (r : Regs) (lvl : Bool) : (pollFall c r lvl).ss = r.ss := by
  unfold pollFall; repeat' split
  all_goals rfl
@[simp] theorem pollFall_clkmode (c : Config) (r : Regs) (lvl : Bool) : (pollFall c r lvl).clkmode = r.clkmode := by
  unfold pollFall; repeat' split
  all_goals rfl
@[simp] theorem pollFall_idle (c : Config) (r : Regs) (lvl : Bool) : (pollFall c r lvl).idle = r.idle := by
  unfold pollFall; repeat' split
  all_goals rfl
@[simp] theorem pollFall_secMark (c : Config) (r : Regs) (lvl : Bool) : (pollFall c r lvl).secMark = r.secMark := by
  unfold pollFall; repeat' split
  all_goals rfl
@[simp] theorem pollFall_tRise (c : Config) (r : Regs) (lvl : Bool) : (pollFall c r lvl).tRise = r.tRise := by
  unfold pollFall; repeat' split
  all_goals rfl
@[simp] theorem pollFall_trig (c : Config) (r : Regs) (lvl : Bool) : (pollFall c r lvl).trig = r.trig := by
  unfold pollFall; repeat' split
  all_goals rfl
@[simp] theorem pollFall_status (c : Config) (r : Regs) (lvl : Bool) : (pollFall c r lvl).status = r.status := by
  unfold pollFall; repeat' split
  all_goals rfl
@[simp] theorem pollFall_mainmode (c : Config) (r : Regs) (lvl : Bool) : (pollFall c r lvl).mainmode = r.mainmode := by
  unfold pollFall; repeat' split
  all_goals rfl
@[simp] theorem pollFall_ph (c : Config) (r : Regs) (lvl : Bool) : (pollFall c r lvl).ph = r.ph := by
  unfold pollFall; repeat' split
  all_goals rfl

/-! ### pollRecovery -/

@[simp] theorem pollRecovery_tcnt (c : Config) (r : Regs) : (pollRecovery c r).tcnt = r.tcnt := by
  unfold pollRecovery; split <;> rfl
@[simp] theorem pollRecovery_mono (c : Config) (r : Regs) : (pollRecovery c r).mono = r.mono := by
  unfold pollRecovery; split <;> rfl
@[simp] theorem pollRecovery_ovfPend (c : Config) (r : Regs) : (pollRecovery c r).ovfPend = r.ovfPend := by
  unfold pollRecovery; split <;> rfl
@[simp] theorem pollRecovery_ie (c : Config) (r : Regs) : (pollRecovery c r).ie = r.ie := by
  unfold pollRecovery; split <;> rfl
@[simp] theorem pollRecovery_lMode (c : Config) (r : Regs) : (pollRecovery c r).lMode = r.lMode := by
  unfold pollRecovery; split <;> rfl
@[simp] theorem pollRecovery_lInc (c : Config) (r : Regs) : (pollRecovery c r).lInc = r.lInc := by
  unfold pollRecovery; split <;> rfl
@[simp] theorem pollRecovery_lDec (c : Config) (r : Regs) : (pollRecovery c r).lDec = r.lDec := by
  unfold pollRecovery; split <;> rfl
@[simp] theorem pollRecovery_hh (c : Config) (r : Regs) : (pollRecovery c r).hh = r.hh := by
  unfold pollRecovery; split <;> rfl
@[simp] theorem pollRecovery_mm (c : Config) (r : Regs) : (pollRecovery c r).mm = r.mm := by
  unfold pollRecovery; split <;> rfl
@[simp] theorem pollRecovery_ss (c : Config) (r : Regs) : (pollRecovery c r).ss = r.ss := by
  unfold pollRecovery; split <;> rfl
@[simp] theorem pollRecovery_clkmode (c : Config) (r : Regs) : (pollRecovery c r).clkmode = r.clkmode := by
  unfold pollRecovery; split <;> rfl
@[simp] theorem pollRecovery_idle (c : Config) (r : Regs) : (pollRecovery c r).idle = r.idle := by
  unfold pollRecovery; split <;> rfl
@[simp] theorem pollRecovery_secMark (c : Config) (r : Regs) : (pollRecovery c r).secMark = r.secMark := by
  unfold pollRecovery; split <;> rfl
@[simp] theorem pollRecovery_tMark (c : Config) (r : Regs) : (pollRecovery c r).tMark = r.tMark := by
  unfold pollRecovery; split <;> rfl
@[simp] theorem pollRecovery_tRise (c : Config) (r : Regs) : (pollRecovery c r).tRise = r.tRise := by
  unfold pollRecovery; split <;> rfl
@[simp] theorem pollRecovery_trig (c : Config) (r : Regs) : (pollRecovery c r).trig = r.trig := by
  unfold pollRecovery; split <;> rfl
@[simp] theorem pollRecovery_dist (c : Config) (r : Regs) : (pollRecovery c r).dist = r.dist := by
  unfold pollRecovery; split <;> rfl
@[simp] theorem pollRecovery_distValid (c : Config) (r : Regs) : (pollRecovery c r).distValid = r.distValid := by
  unfold pollRecovery; split <;> rfl
@[simp] theorem pollRecovery_rres (c : Config) (r : Regs) : (pollRecovery c r).rres = r.rres := by
  unfold pollRecovery; split <;> rfl
@[simp] theorem pollRecovery_mainmode (c : Config) (r : Regs) : (pollRecovery c r).mainmode = r.mainmode := by
  unfold pollRecovery; split <;> rfl
@[simp] theorem pollRecovery_ph (c : Config) (r : Regs) : (pollRecovery c r).ph = r.ph := by
  unfold pollRecovery; split <;> rfl

/-! ### selectMode -/

@[simp] theorem selectMode_tcnt (c : Config) (r : Regs) (lvl : Bool) : (selectMode c r lvl).tcnt = r.tcnt := by
  unfold selectMode; split <;> rfl
@[simp] theorem selectMode_mono (c : Config) (r : Regs) (lvl : Bool) : (selectMode c r lvl).mono = r.mono := by
  unfold selectMode; split <;> rfl
@[simp] theorem selectMode_ovfPend (c : Config) (r : Regs) (lvl : Bool) : (selectMode c r lvl).ovfPend = r.ovfPend := by
  unfold selectMode; split <;> rfl
@[simp] theorem selectMode_ie (c : Config) (r : Regs) (lvl : Bool) : (selectMode c r lvl).ie = r.ie := by
  unfold selectMode; split <;> rfl
@[simp] theorem selectMode_lMode (c : Config) (r : Regs) (lvl : Bool) : (selectMode c r lvl).lMode = r.lMode := by
  unfold selectMode; split <;> rfl
@[simp] theorem selectMode_lInc (c : Config) (r : Regs) (lvl : Bool) : (selectMode c r lvl).lInc = r.lInc := by
  unfold selectMode; split <;> rfl
@[simp] theorem selectMode_lDec (c : Config) (r : Regs) (lvl : Bool) : (selectMode c r lvl).lDec = r.lDec := by
  unfold selectMode; split <;> rfl
@[simp] theorem selectMode_hh (c : Config) (r : Regs) (lvl : Bool) : (selectMode c r lvl).hh = r.hh := by
  unfold selectMode; split <;> rfl
@[simp] theorem selectMode_mm (c : Config) (r : Regs) (lvl : Bool) : (selectMode c r lvl).mm = r.mm := by
  unfold selectMode; split <;> rfl
@[simp] theorem selectMode_ss (c : Config) (r : Regs) (lvl : Bool) : (selectMode c r lvl).ss = r.ss := by
  unfold selectMode; split <;> rfl
@[simp] theorem selectMode_clkmode (c : Config) (r : Regs) (lvl : Bool) : (selectMode c r lvl).clkmode = r.clkmode := by
  unfold selectMode; split <;> rfl
@[simp] theorem selectMode_idle (c : Config) (r : Regs) (lvl : Bool) : (selectMode c r lvl).idle = r.idle := by
  unfold selectMode; split <;> rfl
@[simp] theorem selectMode_secMark (c : Config) (r : Regs) (lvl : Bool) : (selectMode c r lvl).secMark = r.secMark := by
  unfold selectMode; split <;> rfl
@[simp] theorem selectMode_rstate (c : Config) (r : Regs) (lvl : Bool) : (selectMode c r lvl).rstate = r.rstate := by
  unfold selectMode; split <;> rfl
@[simp] theorem selectMode_tMark (c : Config) (r : Regs) (lvl : Bool) : (selectMode c r lvl).tMark = r.tMark := by
  unfold selectMode; split <;> rfl
@[simp] theorem selectMode_tRise (c : Config) (r : Regs) (lvl : Bool) : (selectMode c r lvl).tRise = r.tRise := by
  unfold selectMode; split <;> rfl
@[simp] theorem selectMode_trig (c : Config) (r : Regs) (lvl : Bool) : (selectMode c r lvl).trig = r.trig := by
  unfold selectMode; split <;> rfl
@[simp] theorem selectMode_dist (c : Config) (r : Regs) (lvl : Bool) : (selectMode c r lvl).dist = r.dist := by
  unfold selectMode; split <;> rfl
@[simp] theorem selectMode_distValid (c : Config) (r : Regs) (lvl : Bool) : (selectMode c r lvl).distValid = r.distValid := by
  unfold selectMode; split <;> rfl
@[simp] theorem selectMode_rres (c : Config) (r : Regs) (lvl : Bool) : (selectMode c r lvl).rres = r.rres := by
  unfold selectMode; split <;> rfl
@[simp] theorem selectMode_ph (c : Config) (r : Regs) (lvl : Bool) : (selectMode c r lvl).ph = r.ph := by
  unfold selectMode; split <;> rfl

end Sys2Proof.Machine
end

