-- ==== Sys2Proof/Laws/Ops.lean ====
section
/-! SUPPORT. One lemma per shared operation: everything it can do. -/

namespace Sys2Proof.Machine

/-- A guarded step answers a next state exactly where it is enabled, and it is then the given one. -/
theorem whenEnabled_eq_next {on : Bool} {i : Instr} {t u : State} :
    whenEnabled on i t = .next u ↔ on = true ∧ t = u := by
  cases on <;> simp [whenEnabled]

/-- A guarded step is refused, by its own name, exactly where it is not enabled. -/
theorem whenEnabled_eq_refused {on : Bool} {i : Instr} {t : State} {e : Refusal} :
    whenEnabled on i t = .refused e ↔ on = false ∧ e = .notEnabled i := by
  cases on <;> simp [whenEnabled, eq_comm]

theorem whenEnabled_ne_fault {on : Bool} {i : Instr} {t : State} {e : Fault} : whenEnabled on i t ≠ .fault e := nomatch e

/-- What follows a step answers a next state exactly where the step does. -/
theorem andThen_eq_next {o : Host.Outcome State Fault Refusal} {f : State → State} {u : State} :
    andThen o f = .next u ↔ ∃ t, o = .next t ∧ f t = u := by
  cases o <;> simp [andThen]

/-- `now_us()` as an integer (40_timebase.md R114). -/
theorem nowUs_toNat (c : Config) (r : Regs) :
    (nowUs c r).toNat = (r.mono.toNat + r.tcnt) * c.usNum / c.usDen % 2 ^ 64 := BitVec.toNat_ofNat _ _

/-- `now_ms()` as an integer: no reduction takes effect (40_timebase.md R115). -/
theorem nowMs_toNat (c : Config) (r : Regs) : (nowMs c r).toNat = (nowUs c r).toNat / 1000 := by
  have h := (nowUs c r).isLt
  simp only [nowMs, Config.msDiv, BitVec.toNat_ofNat]
  omega

/-- `elapsed` as an integer (40_timebase.md R116). -/
theorem elapsed_toNat (now mark : Time) : (elapsed now mark).toNat = (2 ^ 64 - mark.toNat + now.toNat) % 2 ^ 64 :=
  BitVec.toNat_sub now mark

/-- The test of every wait (40_timebase.md R116). -/
theorem expired_iff {now mark : Time} {bound : Nat} : expired now mark bound = true ↔ bound ≤ (elapsed now mark).toNat := by
  simp [expired]

/-- A reading lies in a band exactly between its ends (00_scope.md R10). -/
theorem inBand_iff {b : Band} {raw : Nat} : inBand b raw = true ↔ b.lo ≤ raw ∧ raw < b.hi := by simp [inBand]

theorem inMode_iff {raw : Nat} : inMode raw = true ↔ 340 ≤ raw ∧ raw < 450 := inBand_iff
theorem inInc_iff {raw : Nat} : inInc raw = true ↔ 210 ≤ raw ∧ raw < 280 := inBand_iff
theorem inDec_iff {raw : Nat} : inDec raw = true ↔ 130 ≤ raw ∧ raw < 200 := inBand_iff

/-- The bands are disjoint (41_button_decoder.md R130), so `classify` says which one holds a reading (R131). -/
theorem classify_cases (raw : Nat) :
    (classify raw = .mode ∧ inMode raw = true ∧ inInc raw = false ∧ inDec raw = false) ∨
      (classify raw = .inc ∧ inMode raw = false ∧ inInc raw = true ∧ inDec raw = false) ∨
      (classify raw = .dec ∧ inMode raw = false ∧ inInc raw = false ∧ inDec raw = true) ∨
      (classify raw = .none ∧ inMode raw = false ∧ inInc raw = false ∧ inDec raw = false) := by
  have hm := @inMode_iff raw
  have hi := @inInc_iff raw
  have hd := @inDec_iff raw
  cases h1 : inMode raw <;> cases h2 : inInc raw <;> cases h3 : inDec raw <;> simp_all [classify] <;> omega

/-- A button's edge is returned exactly where the reading lies in its band and its latch is clear (41_button_decoder.md
R132). -/
theorem buttonEdge_iff {r : Regs} {raw : Nat} {b : ButtonId} (hb : b ≠ .none) :
    buttonEdge r raw = b ↔ classify raw = b ∧ latchOf r b = false := by
  rcases classify_cases raw with ⟨h0, h1, h2, h3⟩ | ⟨h0, h1, h2, h3⟩ | ⟨h0, h1, h2, h3⟩ | ⟨h0, h1, h2, h3⟩ <;> cases b <;>
    simp_all [buttonEdge, latchOf]
  all_goals split <;> simp

/-- A count of the timer inside its range (40_timebase.md R110). -/
theorem countTimer_cases {c : Config} {r : Regs} (h : r.tcnt < c.tmrRange) :
    (r.tcnt + 1 = c.tmrRange ∧ countTimer c r = { r with tcnt := 0, ovfPend := true }) ∨
      (r.tcnt + 1 < c.tmrRange ∧ countTimer c r = { r with tcnt := r.tcnt + 1 }) := by
  unfold countTimer timerWraps
  by_cases hw : r.tcnt = c.tmrRange - 1
  · exact .inl ⟨by omega, by simp [hw, Regs.setTcnt]⟩
  · have h1 : r.tcnt + 1 < 2 ^ c.tmrW := by
      have h0 : c.tmrRange = 2 ^ c.tmrW := rfl
      omega
    exact .inr ⟨by have h0 : c.tmrRange = 2 ^ c.tmrW := rfl; omega, by simp [hw, Regs.setTcnt, Nat.mod_eq_of_lt h1]⟩

/-- A count touches `TCNT` and the request only. -/
theorem countTimer_frame (c : Config) (r : Regs) :
    countTimer c r = { r with tcnt := (countTimer c r).tcnt, ovfPend := (countTimer c r).ovfPend } := by
  unfold countTimer; split <;> rfl

/-- What a configuration is, clause by clause (00_scope.md R8). -/
theorem valid_iff {c : Config} : c.Valid ↔
    1 ≤ c.tmrW ∧ c.tmrW ≤ 32 ∧ 0 < c.usNum ∧ 0 < c.usDen ∧ 0 < c.secPeriodMs ∧ 3 ≤ c.idleW ∧ 0 < c.trigPulseUs ∧
      0 < c.echoLowTimeoutUs ∧ c.echoLowTimeoutUs < 2 ^ 32 ∧ 16 ≤ c.distW ∧
      (c.echoLowTimeoutUs - 1) * Config.kNum / Config.kDen < 2 ^ c.distW := decide_eq_true_iff

/-- The timer's range divides 2^64 in every configuration (00_scope.md R8). -/
theorem tmrRange_dvd {c : Config} (h : c.Valid) : c.tmrRange ∣ 2 ^ 64 :=
  Nat.pow_dvd_pow 2 (by have := (valid_iff.1 h).2.1; omega)

theorem tmrRange_pos (c : Config) : 0 < c.tmrRange := Nat.two_pow_pos _

/-- The handler's addition as an integer (40_timebase.md R111). -/
theorem takeOverflow_mono_toNat (c : Config) (r : Regs) :
    (takeOverflow c r).mono.toNat = (r.mono.toNat + c.tmrRange) % 2 ^ 64 := by
  simp [BitVec.toNat_add]

/-- One second of time advance: the time of day grows by one modulo a day, every field stays in range, nothing else
changes (42_clock_fsm.md R141, R142). -/
theorem advanceTime_spec {r : Regs} (h : TimeInRange r) :
    secondsOfDay (advanceTime r) = (secondsOfDay r + 1) % 86400 ∧ TimeInRange (advanceTime r) ∧
      advanceTime r = { r with hh := (advanceTime r).hh, mm := (advanceTime r).mm, ss := (advanceTime r).ss } := by
  obtain ⟨h1, h2, h3⟩ := h
  have e1 : r.ss = 59 ↔ r.ss.toNat = 59 := by rw [← BitVec.toNat_inj]; rfl
  have e2 : r.mm = 59 ↔ r.mm.toNat = 59 := by rw [← BitVec.toNat_inj]; rfl
  have e3 : r.hh = 23 ↔ r.hh.toNat = 23 := by rw [← BitVec.toNat_inj]; rfl
  refine ⟨?_, ?_, ?_⟩
  · unfold advanceTime secondsOfDay
    repeat' split
    all_goals simp_all [BitVec.toNat_add]
    all_goals omega
  · unfold advanceTime TimeInRange
    repeat' split
    all_goals simp_all [BitVec.toNat_add]
    all_goals omega
  · unfold advanceTime
    repeat' split
    all_goals rfl

/-- One second in a setting state: the idle count grows, or the state reverts (42_clock_fsm.md R141). -/
theorem idleSecond_cases (c : Config) (r : Regs) :
    (idleReverts c (r.idle + 1) = true ∧ idleSecond c r = { r with clkmode := .normal, idle := 0 }) ∨
      (idleReverts c (r.idle + 1) = false ∧ idleSecond c r = r.setIdle c (r.idle + 1)) := by
  unfold idleSecond
  cases h : idleReverts c (r.idle + 1) <;> simp

/-- The revert test against the largest `IDLE` that may stand (10_state.md R38 (c), 42_clock_fsm.md R141). -/
theorem idleReverts_iff {c : Config} {n : Nat} : idleReverts c n = true ↔ idleBound c < n := by
  unfold idleReverts idleBound Config.idleThreshold
  cases c.idleRevertStrict
  · simp; omega
  · simp

/-- One poll of the trigger pulse: it expires or changes nothing (43_ranging.md R162). -/
theorem pollTrigger_cases (c : Config) (r : Regs) :
    (expired (nowUs c r) r.tMark c.trigPulseUs = true ∧
        pollTrigger c r = { r with trig := false, tMark := nowUs c r, rstate := .waith }) ∨
      (expired (nowUs c r) r.tMark c.trigPulseUs = false ∧ pollTrigger c r = r) := by
  unfold pollTrigger
  cases h : expired (nowUs c r) r.tMark c.trigPulseUs <;> simp

/-- One poll of the wait for the rise (43_ranging.md R163). -/
theorem pollRise_cases (c : Config) (r : Regs) (lvl : Bool) :
    (expired (nowUs c r) r.tMark Config.echoHighTimeoutUs = true ∧ pollRise c r lvl = noSample c r .noEcho) ∨
      (expired (nowUs c r) r.tMark Config.echoHighTimeoutUs = false ∧ lvl = true ∧
        pollRise c r lvl = { r with tRise := nowUs c r, rstate := .waitl }) ∨
      (expired (nowUs c r) r.tMark Config.echoHighTimeoutUs = false ∧ lvl = false ∧ pollRise c r lvl = r) := by
  unfold pollRise
  cases h : expired (nowUs c r) r.tMark Config.echoHighTimeoutUs <;> cases lvl <;> simp

/-- One poll of the wait for the fall (43_ranging.md R164). -/
theorem pollFall_cases (c : Config) (r : Regs) (lvl : Bool) :
    (fallTimedOut c r = true ∧ yieldsSample c r lvl = false ∧ pollFall c r lvl = noSample c r .echoStuck) ∨
      (fallTimedOut c r = false ∧ lvl = false ∧ yieldsSample c r lvl = true ∧ pollFall c r lvl = takeSample c r) ∨
      (fallTimedOut c r = false ∧ lvl = true ∧ yieldsSample c r lvl = false ∧ pollFall c r lvl = r) := by
  unfold pollFall yieldsSample
  cases h : fallTimedOut c r <;> cases lvl <;> simp

theorem fallTimedOut_iff {c : Config} {r : Regs} : fallTimedOut c r = true ↔ c.echoLowTimeoutUs ≤ echoWidth c r := expired_iff

/-- One poll of the recovery delay (43_ranging.md R167). -/
theorem pollRecovery_cases (c : Config) (r : Regs) :
    (expired (nowUs c r) r.tMark Config.recoveryUs = true ∧ pollRecovery c r = { r with status := true, rstate := .idle }) ∨
      (expired (nowUs c r) r.tMark Config.recoveryUs = false ∧ pollRecovery c r = r) := by
  unfold pollRecovery
  cases h : expired (nowUs c r) r.tMark Config.recoveryUs <;> simp

/-- In a configuration no reachable width is reduced (43_ranging.md R165). -/
theorem distOfWidth_eq {c : Config} (h : c.Valid) {w : Nat} (hw : w < c.echoLowTimeoutUs) : distOfWidth c w = centimetres w := by
  obtain ⟨-, -, -, -, -, -, -, -, -, -, h⟩ := valid_iff.1 h
  refine Nat.mod_eq_of_lt (lt_of_le_of_lt ?_ h)
  simp only [centimetres, Config.kNum, Config.kDen]
  omega

/-- The mark of the second cadence moves, and nothing else (42_clock_fsm.md R147). -/
theorem remark_frame (c : Config) (r : Regs) : remark c r = { r with secMark := (remark c r).secMark } := by
  unfold remark; split <;> rfl

/-- Moving the mark and applying a second are independent (42_clock_fsm.md R147). -/
theorem applySecond_remark (c : Config) (r : Regs) :
    applySecond c (remark c r) = { applySecond c r with secMark := (remark c r).secMark } := by
  unfold remark applySecond advanceTime idleSecond
  cases c.secRemark <;> cases h : r.clkmode <;> simp only <;> (repeat' split) <;> ext <;> simp [h]

/-- The arbiter's two outcomes (44_arbiter_sequencer.md R180). -/
theorem selectMode_cases (c : Config) (r : Regs) (lvl : Bool) :
    (lvl = c.revActive ∧ selectMode c r lvl = { r with mainmode := .parking, status := true }) ∨
      (lvl ≠ c.revActive ∧ selectMode c r lvl = { r with mainmode := .clock }) := by
  unfold selectMode meansReverse
  by_cases h : lvl = c.revActive <;> simp [h]

end Sys2Proof.Machine
end

