-- ==== Sys2Proof/Laws/Exec.lean ====
section
/-! SUPPORT. What each operation can do, said once: `exec` is the operation's effect where it is enabled, and a refusal by
name elsewhere (44_arbiter_sequencer.md R192). -/

namespace Sys2Proof.Machine

/-- The registers an operation leaves where it is enabled. -/
def regsAfter (c : Config) (r : Regs) : Instr → Regs
  | .tbCount => countTimer c r
  | .tbOvf => takeOverflow c r
  | .tbRdus => r
  | .tbRdms => r
  | .tbIrqoff => { r with ie := false }
  | .tbIrqon => { r with ie := true }
  | .btSample raw => latchBands r raw
  | .ckSec => applySecond c r
  | .ckMode => modeEdge r
  | .ckInc => incEdge r
  | .ckDec => decEdge r
  | .ckSecchk => if secondDue c r then applySecond c (remark c r) else r
  | .rgTrig => startCycle c r
  | .rgTrigw => pollTrigger c r
  | .rgWaith lvl => pollRise c r lvl
  | .rgWaitl lvl => pollFall c r lvl
  | .rgRecov => pollRecovery c r
  | .arSel lvl => selectMode c r lvl
  | .sysReset => Regs.reset

/-- What an operation shows where it is enabled. -/
def outAfter (c : Config) (r : Regs) : Instr → Outputs
  | .tbRdus => { quiet with read := some (nowUs c r) }
  | .tbRdms => { quiet with read := some (nowMs c r) }
  | .btSample raw => { quiet with button := some (classify raw, buttonEdge r raw) }
  | .ckSecchk => { quiet with hbStb := secondDue c r }
  | .rgWaitl lvl => { quiet with sampleStb := yieldsSample c r lvl }
  | _ => quiet

/-- The count of `TB_COUNT` since reset, after an operation. -/
def countsAfter (n : Nat) : Instr → Nat
  | .tbCount => n + 1
  | .sysReset => 0
  | _ => n

/-- Whether an overflow has been lost since reset, after an operation. -/
def lostAfter (c : Config) (r : Regs) (b : Bool) : Instr → Bool
  | .tbCount => b || overflowLost c r
  | .sysReset => false
  | _ => b

/-- The state an operation leaves where it is enabled. -/
def after (i : Instr) (s : State) : State :=
  { s with
    regs := regsAfter s.cfg s.regs i
    out := outAfter s.cfg s.regs i
    counts := countsAfter s.counts i
    lost := lostAfter s.cfg s.regs s.lost i }

@[simp] theorem after_cfg (i : Instr) (s : State) : (after i s).cfg = s.cfg := rfl
@[simp] theorem after_regs (i : Instr) (s : State) : (after i s).regs = regsAfter s.cfg s.regs i := rfl
@[simp] theorem after_out (i : Instr) (s : State) : (after i s).out = outAfter s.cfg s.regs i := rfl
@[simp] theorem after_counts (i : Instr) (s : State) : (after i s).counts = countsAfter s.counts i := rfl
@[simp] theorem after_lost (i : Instr) (s : State) : (after i s).lost = lostAfter s.cfg s.regs s.lost i := rfl
@[simp] theorem after_script (i : Instr) (s : State) : (after i s).script = s.script := rfl
@[simp] theorem after_env (i : Instr) (s : State) : (after i s).env = s.env := rfl
@[simp] theorem after_since (i : Instr) (s : State) : (after i s).since = s.since := rfl

/-- Everything `exec` can answer. -/
theorem exec_eq (i : Instr) (s : State) : exec i s = whenEnabled (enabled s.regs i) i (after i s) := by
  cases i <;> try rfl
  case ckSecchk =>
    simp only [exec, execCkSecchk, whenEnabled, enabled, after, regsAfter, outAfter, countsAfter, lostAfter]
    cases secondDue s.cfg s.regs <;> rfl

/-- An operation answers a next state exactly where it is enabled, and which. -/
theorem exec_eq_next {i : Instr} {s t : State} : exec i s = .next t ↔ enabled s.regs i = true ∧ after i s = t := by
  rw [exec_eq, whenEnabled_eq_next]

/-- An operation is refused exactly where it is not enabled, and by which name. -/
theorem exec_eq_refused {i : Instr} {s : State} {e : Refusal} :
    exec i s = .refused e ↔ enabled s.regs i = false ∧ e = .notEnabled i := by
  rw [exec_eq, whenEnabled_eq_refused]

theorem exec_of_enabled {i : Instr} {s : State} (h : enabled s.regs i = true) : exec i s = .next (after i s) :=
  exec_eq_next.2 ⟨h, rfl⟩

/-- No operation writes what stands outside the block. -/
theorem exec_sameOutside {i : Instr} {s t : State} (h : exec i s = .next t) : SameOutside s t := by
  obtain ⟨-, rfl⟩ := exec_eq_next.1 h
  exact ⟨rfl, rfl, rfl, rfl⟩

/-- A step of MAIN is its operation and what the sequencer adds (44_arbiter_sequencer.md R184). -/
theorem mainStep_eq_next {inp : Inputs} {s t : State} :
    mainStep inp s = .next t ↔
      enabled s.regs (mainOp s.regs inp) = true ∧ finishMain s.regs (after (mainOp s.regs inp) s) = t := by
  simp only [mainStep, andThen_eq_next, exec_eq_next]
  constructor
  · rintro ⟨u, ⟨h, rfl⟩, rfl⟩; exact ⟨h, rfl⟩
  · rintro ⟨h, rfl⟩; exact ⟨_, ⟨h, rfl⟩, rfl⟩

/-- The operation MAIN performs is enabled wherever (l) of 10_state.md R38 holds (44_arbiter_sequencer.md R184). -/
theorem mainOp_enabled {s : State} (h : SeqInv s) (inp : Inputs) : enabled s.regs (mainOp s.regs inp) = true := by
  unfold mainOp
  unfold SeqInv at h
  cases hp : s.regs.ph <;> simp_all [enabled]
  cases hr : s.regs.rstate <;> simp_all

/-- In a configuration, a step is the urgent interrupt or the next line. -/
theorem step_of_valid {s : State} (h : s.cfg.Valid) : step s = stepLine s := if_pos h

/-- Every way `step` answers a next state (60_exceptions.md R205, 20_memory.md R69). -/
theorem step_cases {s t : State} (h : step s = .next t) :
    s.cfg.Valid ∧
      ((interruptUrgent s.regs = true ∧ s.script = [] ∧ goesFirst (nextLine s) = false ∧ after .tbOvf s = t) ∨
        ((interruptUrgent s.regs = false ∨ goesFirst (nextLine s) = true) ∧ runLine (nextLine s) (takeLine s) = .next t)) := by
  unfold step at h
  split at h
  case isFalse => cases h
  case isTrue hv =>
    refine ⟨hv, ?_⟩
    unfold stepLine at h
    split at h
    case isTrue hu =>
      simp only [Bool.and_eq_true, Bool.not_eq_true'] at hu
      split at h
      case h_1 he => exact .inl ⟨hu.1, he, hu.2, (exec_eq_next.1 h).2⟩
      case h_2 => cases h
    case isFalse hu =>
      refine .inr ⟨?_, h⟩
      cases hi : interruptUrgent s.regs <;> cases hg : goesFirst (nextLine s) <;> simp_all

/-- What may stand before an urgent interrupt (60_exceptions.md R205): `TB_OVF` itself, or a reset. -/
theorem goesFirst_cases {l : Line} (h : goesFirst l = true) :
    (∃ w, l = .op w ∧ (decode w = .ok .tbOvf ∨ decode w = .ok .sysReset)) ∨ ∃ p, l = .pins p ∧ p.rst = true := by
  cases l with
  | op w =>
    refine .inl ⟨w, rfl, ?_⟩
    simp only [goesFirst] at h
    split at h <;> simp_all
  | main inp => cases h
  | pins p => exact .inr ⟨p, rfl, h⟩
  | tick n => cases h

/-- Every way a line answers a next state: an operation word, a step of MAIN, a clock edge at the control ports, or a
count of a `TB_TICK`. -/
theorem runLine_cases {l : Line} {s t : State} (h : runLine l s = .next t) :
    (∃ w i, l = .op w ∧ decode w = .ok i ∧ exec i s = .next t) ∨ (∃ inp, l = .main inp ∧ mainStep inp s = .next t) ∨
      (∃ p, l = .pins p ∧ hostEdge p s = .next t) ∨ (∃ n, l = .tick n ∧ finishTick n (after .tbCount s) = t) := by
  cases l with
  | op w =>
    simp only [runLine] at h
    cases hd : decode w with
    | ok i => exact .inl ⟨w, i, rfl, hd, by simpa [hd] using h⟩
    | error e => simp [hd] at h
  | main inp => exact .inr (.inl ⟨inp, rfl, h⟩)
  | pins p => exact .inr (.inr (.inl ⟨p, rfl, h⟩))
  | tick n =>
    obtain ⟨u, hu, rfl⟩ := andThen_eq_next.1 (show andThen (exec .tbCount s) (finishTick n) = .next t from h)
    exact .inr (.inr (.inr ⟨n, rfl, by rw [(exec_eq_next.1 hu).2]⟩))

/-- A clock edge at the control ports always has a next state (10_state.md R41). -/
theorem hostEdge_cases (p : Pins) (s : State) :
    (p.rst = true ∧ hostEdge p s = .next (after .sysReset s)) ∨
      (p.rst = false ∧ p.ieClr = true ∧ hostEdge p s = .next (after .tbIrqoff s)) ∨
      (p.rst = false ∧ p.ieClr = false ∧ p.ieSet = true ∧ hostEdge p s = .next (after .tbIrqon s)) ∨
      (p.rst = false ∧ p.ieClr = false ∧ p.ieSet = false ∧ hostEdge p s = .next (s.commit s.regs quiet)) := by
  unfold hostEdge
  cases p.rst <;> cases p.ieClr <;> cases p.ieSet <;> simp [exec_eq, whenEnabled, enabled]

@[simp] theorem takeLine_cfg (s : State) : (takeLine s).cfg = s.cfg := by unfold takeLine; split <;> rfl
@[simp] theorem takeLine_regs (s : State) : (takeLine s).regs = s.regs := by unfold takeLine; split <;> rfl
@[simp] theorem takeLine_out (s : State) : (takeLine s).out = s.out := by unfold takeLine; split <;> rfl
@[simp] theorem takeLine_counts (s : State) : (takeLine s).counts = s.counts := by unfold takeLine; split <;> rfl
/-- A script's first line is taken and the environment's counters stand (30_encoding.md R91). -/
theorem takeLine_of_script {s : State} {l : Line} {rest : List Line} (h : s.script = l :: rest) :
    takeLine s = { s with script := rest } := by unfold takeLine; rw [h]

/-- With no script the environment's choice is taken (20_memory.md R69). -/
theorem takeLine_of_empty {s : State} (h : s.script = []) :
    takeLine s = { s with env := s.env + 1, since := nextSince Config.freeGap s.env s.since } := by unfold takeLine; rw [h]

/-- What the environment chooses: the count that is due, or its free choice (20_memory.md R72). -/
theorem chooseEvent_cases (free : Nat → EnvEvent) (gap : Nat → Nat) (n since : Nat) :
    (gap (n - since) ≤ since ∧ chooseEvent free gap n since = .count ∧ nextSince gap n since = 0) ∨
      (since < gap (n - since) ∧ chooseEvent free gap n since = free n ∧ nextSince gap n since = since + 1) := by
  unfold chooseEvent nextSince countDue
  by_cases h : gap (n - since) ≤ since
  · exact .inl ⟨h, by simp [h], by simp [h]⟩
  · exact .inr ⟨by omega, by simp [h], by simp [h]⟩

@[simp] theorem takeLine_lost (s : State) : (takeLine s).lost = s.lost := by unfold takeLine; split <;> rfl

@[simp] theorem finishTick_cfg (n : Nat) (t : State) : (finishTick n t).cfg = t.cfg := rfl
@[simp] theorem finishTick_regs (n : Nat) (t : State) : (finishTick n t).regs = t.regs := rfl
@[simp] theorem finishTick_out (n : Nat) (t : State) : (finishTick n t).out = t.out := rfl
@[simp] theorem finishTick_script (n : Nat) (t : State) : (finishTick n t).script =
    (if interruptUrgent t.regs then [.op (encode .tbOvf)] else []) ++ (tickLines n ++ t.script) := rfl
@[simp] theorem finishTick_counts (n : Nat) (t : State) : (finishTick n t).counts = t.counts := rfl
@[simp] theorem finishTick_lost (n : Nat) (t : State) : (finishTick n t).lost = t.lost := rfl
@[simp] theorem finishTick_env (n : Nat) (t : State) : (finishTick n t).env = t.env := rfl
@[simp] theorem finishTick_since (n : Nat) (t : State) : (finishTick n t).since = t.since := rfl

@[simp] theorem finishMain_cfg (b : Regs) (t : State) : (finishMain b t).cfg = t.cfg := rfl
@[simp] theorem finishMain_script (b : Regs) (t : State) : (finishMain b t).script = t.script := rfl
@[simp] theorem finishMain_env (b : Regs) (t : State) : (finishMain b t).env = t.env := rfl
@[simp] theorem finishMain_since (b : Regs) (t : State) : (finishMain b t).since = t.since := rfl
@[simp] theorem finishMain_counts (b : Regs) (t : State) : (finishMain b t).counts = t.counts := rfl
@[simp] theorem finishMain_lost (b : Regs) (t : State) : (finishMain b t).lost = t.lost := rfl
@[simp] theorem finishMain_ph (b : Regs) (t : State) : (finishMain b t).regs.ph = phaseAfter b t.regs := rfl

@[simp] theorem finishMain_tcnt (b : Regs) (t : State) : (finishMain b t).regs.tcnt = t.regs.tcnt := by simp [finishMain]
@[simp] theorem finishMain_mono (b : Regs) (t : State) : (finishMain b t).regs.mono = t.regs.mono := by simp [finishMain]
@[simp] theorem finishMain_ovfPend (b : Regs) (t : State) : (finishMain b t).regs.ovfPend = t.regs.ovfPend := by simp [finishMain]
@[simp] theorem finishMain_ie (b : Regs) (t : State) : (finishMain b t).regs.ie = t.regs.ie := by simp [finishMain]
@[simp] theorem finishMain_lMode (b : Regs) (t : State) : (finishMain b t).regs.lMode = t.regs.lMode := by simp [finishMain]
@[simp] theorem finishMain_lInc (b : Regs) (t : State) : (finishMain b t).regs.lInc = t.regs.lInc := by simp [finishMain]
@[simp] theorem finishMain_lDec (b : Regs) (t : State) : (finishMain b t).regs.lDec = t.regs.lDec := by simp [finishMain]
@[simp] theorem finishMain_ss (b : Regs) (t : State) : (finishMain b t).regs.ss = t.regs.ss := by simp [finishMain]
@[simp] theorem finishMain_secMark (b : Regs) (t : State) : (finishMain b t).regs.secMark = t.regs.secMark := by simp [finishMain]
@[simp] theorem finishMain_rstate (b : Regs) (t : State) : (finishMain b t).regs.rstate = t.regs.rstate := by simp [finishMain]
@[simp] theorem finishMain_tMark (b : Regs) (t : State) : (finishMain b t).regs.tMark = t.regs.tMark := by simp [finishMain]
@[simp] theorem finishMain_tRise (b : Regs) (t : State) : (finishMain b t).regs.tRise = t.regs.tRise := by simp [finishMain]
@[simp] theorem finishMain_trig (b : Regs) (t : State) : (finishMain b t).regs.trig = t.regs.trig := by simp [finishMain]
@[simp] theorem finishMain_status (b : Regs) (t : State) : (finishMain b t).regs.status = t.regs.status := by simp [finishMain]
@[simp] theorem finishMain_dist (b : Regs) (t : State) : (finishMain b t).regs.dist = t.regs.dist := by simp [finishMain]
@[simp] theorem finishMain_distValid (b : Regs) (t : State) : (finishMain b t).regs.distValid = t.regs.distValid := by simp [finishMain]
@[simp] theorem finishMain_rres (b : Regs) (t : State) : (finishMain b t).regs.rres = t.regs.rres := by simp [finishMain]
@[simp] theorem finishMain_mainmode (b : Regs) (t : State) : (finishMain b t).regs.mainmode = t.regs.mainmode := by simp [finishMain]

/-- What the sequencer performs is an operation of MAIN (00_scope.md R6). -/
theorem mainOp_agents (r : Regs) (inp : Inputs) : (mainOp r inp).agents = [.main] := by
  unfold mainOp
  cases r.ph
  case rng => cases r.rstate <;> rfl
  all_goals rfl

end Sys2Proof.Machine
end

