-- ==== Sys2Proof/Laws/PerInstr.lean ====
section
/-! SUPPORT. What holds of every operation as syntax, one lemma per constructor. -/

namespace Sys2Proof.Laws

/-- The word of a well-formed operation selects a row of the table of 30_encoding.md R84, and the row has its mnemonic. -/
def EncodesItsRow.Statement (i : Instr) : Prop :=
  i.wellFormed = true → ∃ row, row ∈ opcodeTable ∧ row.mnemonic = i.mnemonic ∧ row.selects (encode i) = true

/-- The ten operand bits are the ones the mask of a format A row leaves free (R81, R84). -/
theorem packWord_and_mask (f s : BitVec 3) (a : BitVec 10) : packWord f s a &&& 0xFC00 = packWord f s 0 := by
  apply BitVec.eq_of_getLsbD_eq
  intro i hi
  have hm : (0xFC00 : Word).getLsbD i = decide (10 ≤ i) := by
    have h : ∀ k : Fin 16, (0xFC00 : Word).getLsbD k = decide (10 ≤ k.val) := by decide
    exact h ⟨i, hi⟩
  rw [BitVec.getLsbD_and, packWord_getLsbD, packWord_getLsbD, hm]
  by_cases h : i < 10
  · simp [h, show ¬ 10 ≤ i by omega]
  · simp [h, show 10 ≤ i by omega]

theorem EncodesItsRow.tbCount : EncodesItsRow.Statement .tbCount := fun _ =>
  ⟨opcodeTable[0], by decide, rfl, by decide⟩

theorem EncodesItsRow.tbOvf : EncodesItsRow.Statement .tbOvf := fun _ =>
  ⟨opcodeTable[1], by decide, rfl, by decide⟩

theorem EncodesItsRow.tbRdus : EncodesItsRow.Statement .tbRdus := fun _ =>
  ⟨opcodeTable[2], by decide, rfl, by decide⟩

theorem EncodesItsRow.tbRdms : EncodesItsRow.Statement .tbRdms := fun _ =>
  ⟨opcodeTable[3], by decide, rfl, by decide⟩

theorem EncodesItsRow.tbIrqoff : EncodesItsRow.Statement .tbIrqoff := fun _ =>
  ⟨opcodeTable[4], by decide, rfl, by decide⟩

theorem EncodesItsRow.tbIrqon : EncodesItsRow.Statement .tbIrqon := fun _ =>
  ⟨opcodeTable[5], by decide, rfl, by decide⟩

theorem EncodesItsRow.btSample (raw : Nat) : EncodesItsRow.Statement (.btSample raw) := fun _ =>
  ⟨opcodeTable[6], by decide, rfl, by
    rw [OpRow.selects, decide_eq_true_iff]
    exact packWord_and_mask 1 0 (BitVec.ofNat 10 raw)⟩

theorem EncodesItsRow.ckSec : EncodesItsRow.Statement .ckSec := fun _ =>
  ⟨opcodeTable[7], by decide, rfl, by decide⟩

theorem EncodesItsRow.ckMode : EncodesItsRow.Statement .ckMode := fun _ =>
  ⟨opcodeTable[8], by decide, rfl, by decide⟩

theorem EncodesItsRow.ckInc : EncodesItsRow.Statement .ckInc := fun _ =>
  ⟨opcodeTable[9], by decide, rfl, by decide⟩

theorem EncodesItsRow.ckDec : EncodesItsRow.Statement .ckDec := fun _ =>
  ⟨opcodeTable[10], by decide, rfl, by decide⟩

theorem EncodesItsRow.ckSecchk : EncodesItsRow.Statement .ckSecchk := fun _ =>
  ⟨opcodeTable[11], by decide, rfl, by decide⟩

theorem EncodesItsRow.rgTrig : EncodesItsRow.Statement .rgTrig := fun _ =>
  ⟨opcodeTable[12], by decide, rfl, by decide⟩

theorem EncodesItsRow.rgTrigw : EncodesItsRow.Statement .rgTrigw := fun _ =>
  ⟨opcodeTable[13], by decide, rfl, by decide⟩

theorem EncodesItsRow.rgWaith (lvl : Bool) : EncodesItsRow.Statement (.rgWaith lvl) := fun _ =>
  ⟨opcodeTable[14], by decide, rfl, by cases lvl <;> decide⟩

theorem EncodesItsRow.rgWaitl (lvl : Bool) : EncodesItsRow.Statement (.rgWaitl lvl) := fun _ =>
  ⟨opcodeTable[15], by decide, rfl, by cases lvl <;> decide⟩

theorem EncodesItsRow.rgRecov : EncodesItsRow.Statement .rgRecov := fun _ =>
  ⟨opcodeTable[16], by decide, rfl, by decide⟩

theorem EncodesItsRow.arSel (lvl : Bool) : EncodesItsRow.Statement (.arSel lvl) := fun _ =>
  ⟨opcodeTable[17], by decide, rfl, by cases lvl <;> decide⟩

theorem EncodesItsRow.sysReset : EncodesItsRow.Statement .sysReset := fun _ =>
  ⟨opcodeTable[18], by decide, rfl, by decide⟩

end Sys2Proof.Laws
end

