-- ==== Sys2Proof/Tests/Slice0.lean ====
section
/-! SUPPORT. Own tests. Expected results come from 95_test_vectors.md; the row is named with each. The second half meets the
hypotheses of each statement at concrete states, at the ends of its clauses' ranges. -/

namespace Sys2Proof.Tests

open Sys2Proof.Machine

/-- The reference configuration with other registers. -/
def withRegs (r : Regs) : State := { State.reset with regs := r }

/-- Another configuration and other registers. -/
def withCfg (c : Config) (r : Regs) : State := { State.resetWith c with regs := r }

/-- Registers after reset but for the time base, which stands at `n` counts of a 256-count timer. -/
def atCount (n : Nat) : Regs := { Regs.reset with tcnt := n % 256, mono := BitVec.ofNat 64 (n / 256 * 256) }

/-- Registers after reset but for the wall clock. -/
def clockRegs (m : ClkMode) (h mi se : Nat) (idle : Nat) : Regs :=
  { Regs.reset with clkmode := m, hh := BitVec.ofNat 5 h, mm := BitVec.ofNat 6 mi, ss := BitVec.ofNat 6 se, idle := idle }

/-- The reset state with a script before it. -/
def scripted (ls : List Line) : State := State.reset.load ls

def regsOf : Host.Outcome State Fault Refusal → Option Regs
  | .next t => some t.regs
  | .fault _ => none
  | .refused _ => none

def outOf : Host.Outcome State Fault Refusal → Option Outputs
  | .next t => some t.out
  | .fault _ => none
  | .refused _ => none

def refusalOf : Host.Outcome State Fault Refusal → Option Refusal
  | .next _ => none
  | .fault _ => none
  | .refused e => some e

/-! ### Well-formedness: each check refuses an ill-formed term (00_scope.md R8, 20_memory.md R64) -/

theorem test_raw_range : (Instr.btSample 1024).wellFormed = false ∧ (Instr.btSample 1023).wellFormed = true := by decide

theorem test_cfg_ref : Config.ref.valid = true := by decide
theorem test_cfg_tmrW_low : { Config.ref with tmrW := 0 }.valid = false := by decide
theorem test_cfg_tmrW_high : { Config.ref with tmrW := 33 }.valid = false := by decide
theorem test_cfg_usNum : { Config.ref with usNum := 0 }.valid = false := by decide
theorem test_cfg_usDen : { Config.ref with usDen := 0 }.valid = false := by decide
theorem test_cfg_secPeriodMs : { Config.ref with secPeriodMs := 0 }.valid = false := by decide
theorem test_cfg_idleW : { Config.ref with idleW := 2 }.valid = false := by decide
theorem test_cfg_trigPulseUs : { Config.ref with trigPulseUs := 0 }.valid = false := by decide
theorem test_cfg_echoLow_low : { Config.ref with echoLowTimeoutUs := 0 }.valid = false := by decide
theorem test_cfg_echoLow_high : { Config.ref with echoLowTimeoutUs := 4294967296 }.valid = false := by decide
theorem test_cfg_distW : { Config.ref with distW := 15 }.valid = false := by decide
theorem test_cfg_distance_fits : { Config.ref with distW := 16, echoLowTimeoutUs := 4294967295 }.valid = false := by decide

/-! ### Decoding: the words of 95_test_vectors.md 2.7, every constructor -/

theorem test_decode_timeBase :
    decode 0x0000 = .ok .tbCount ∧ decode 0x0400 = .ok .tbOvf ∧ decode 0x0800 = .ok .tbRdus ∧ decode 0x0C00 = .ok .tbRdms ∧
      decode 0x1000 = .ok .tbIrqoff ∧ decode 0x1400 = .ok .tbIrqon := ⟨rfl, rfl, rfl, rfl, rfl, rfl⟩

theorem test_decode_buttons :
    decode 0x2000 = .ok (.btSample 0) ∧ decode 0x218B = .ok (.btSample 395) ∧ decode 0x20F5 = .ok (.btSample 245) ∧
      decode 0x20A5 = .ok (.btSample 165) ∧ decode 0x23FF = .ok (.btSample 1023) := ⟨rfl, rfl, rfl, rfl, rfl⟩

theorem test_decode_clock :
    decode 0x4000 = .ok .ckSec ∧ decode 0x4400 = .ok .ckMode ∧ decode 0x4800 = .ok .ckInc ∧ decode 0x4C00 = .ok .ckDec ∧
      decode 0x5000 = .ok .ckSecchk := ⟨rfl, rfl, rfl, rfl, rfl⟩

theorem test_decode_ranging :
    decode 0x6000 = .ok .rgTrig ∧ decode 0x6400 = .ok .rgTrigw ∧ decode 0x7000 = .ok .rgRecov ∧
      decode 0x6800 = .ok (.rgWaith false) ∧ decode 0x6801 = .ok (.rgWaith true) ∧
      decode 0x6C00 = .ok (.rgWaitl false) ∧ decode 0x6C01 = .ok (.rgWaitl true) := ⟨rfl, rfl, rfl, rfl, rfl, rfl, rfl⟩

theorem test_decode_arbiter_system :
    decode 0x8000 = .ok (.arSel false) ∧ decode 0x8001 = .ok (.arSel true) ∧ decode 0xFC00 = .ok .sysReset := ⟨rfl, rfl, rfl⟩

theorem test_decode_invalid :
    decode 0x0001 = .error (.operandBits 1) ∧ decode 0x6802 = .error (.operandBits 2) ∧
      ([0x1800, 0x3000, 0x5400, 0x7400, 0x8400, 0xA000, 0xC000, 0xE000, 0xF800] : List Word).all
        (fun w => match decode w with | .ok _ => false | .error e => decide (e = .unassignedOp (opField w))) = true := by
  exact ⟨rfl, rfl, by decide⟩

theorem test_encode_words :
    encode .tbIrqon = 0x1400 ∧ encode (.btSample 395) = 0x218B ∧ encode .ckSecchk = 0x5000 ∧ encode (.rgWaitl true) = 0x6C01 ∧
      encode (.arSel true) = 0x8001 ∧ encode .sysReset = 0xFC00 := by decide

theorem test_table_word : decodeTableWord 16 0x6801 = some (.rgWaith true) ∧ decodeTableWord 16 0x1800 = none := by decide

/-! ### Scripts (30_encoding.md R91, R92) -/

theorem test_script_text : parseScript "CK_SEC ; one second\n\n BT_PRESS INC" = some [.op 0x4000, .op 0x20F5] := by decide

theorem test_script_unreadable : parseScript "CK_SECOND" = none := by decide

theorem test_guarded_expansion : Pseudo.rdusG.expand = [.op 0x1000, .op 0x0800, .op 0x1400] := by decide

/-- R92 on a timer of two counts: each wrap is served within the tick, so a `TB_OVF` after it has no step, while one after
a plain `TB_COUNT` has; a last `TB_COUNT` leaves its overflow pending (R91). -/
theorem test_tick_serves_its_wraps :
    regsOf (runScript ((withCfg { Config.ref with tmrW := 1 } Regs.reset).load (Pseudo.tick 4).expand)) =
      some { Regs.reset with mono := 4 } ∧
    refusalOf (runScript ((withCfg { Config.ref with tmrW := 1 } Regs.reset).load [.tick 1, .op 0x0400])) =
      some (.notEnabled .tbOvf) ∧
    regsOf (runScript ((withCfg { Config.ref with tmrW := 1 } Regs.reset).load [.op 0x0000, .op 0x0000])) =
      some { Regs.reset with ovfPend := true } := by decide

/-- With the interrupt disabled a tick leaves its overflow pending (R92). -/
theorem test_tick_suppressed :
    regsOf (runScript ((withCfg { Config.ref with tmrW := 1 } { Regs.reset with ie := false }).load (Pseudo.tick 3).expand)) =
      some { Regs.reset with ie := false, tcnt := 1, ovfPend := true } := by decide

theorem test_fetch_word : regsOf (step (State.reset.withFetchWord 16 0x4000)) = some { Regs.reset with ss := 1 } := by decide

/-! ### Time Base (95 2.1, 2.2) -/

/-- T3. -/
theorem test_tb_count_wraps :
    regsOf (exec .tbCount (withRegs { Regs.reset with tcnt := 255 })) = some { Regs.reset with ovfPend := true } := by decide

/-- T4: one overflow lost. -/
theorem test_tb_count_loses :
    ∃ t, exec .tbCount (withRegs { Regs.reset with tcnt := 255, ovfPend := true, ie := false }) = .next t ∧ t.lost = true :=
  ⟨_, rfl, by decide⟩

/-- T6: `MONO` wraps. -/
theorem test_tb_ovf_wraps :
    regsOf (exec .tbOvf (withRegs { Regs.reset with mono := BitVec.ofNat 64 (2 ^ 64 - 256), ovfPend := true })) =
      some Regs.reset := by decide

/-- T7, T8. -/
theorem test_tb_ovf_disabled :
    refusalOf (exec .tbOvf (withRegs { Regs.reset with ovfPend := true, ie := false })) = some (.notEnabled .tbOvf) ∧
      refusalOf (exec .tbOvf State.reset) = some (.notEnabled .tbOvf) := by decide

/-- T17, T22, T24: a whole second, a quantum of half a microsecond, the wrap of `now_us()`. -/
theorem test_tb_rdus :
    outOf (exec .tbRdus (withRegs (atCount 250000))) = some { quiet with read := some 1000000 } ∧
      outOf (exec .tbRdus (withCfg { Config.ref with usNum := 1, usDen := 2 } (atCount 257))) =
        some { quiet with read := some 128 } ∧
      outOf (exec .tbRdus (withRegs (atCount (2 ^ 62)))) = some { quiet with read := some 0 } := by decide

/-- T18, T25. -/
theorem test_tb_rdms :
    outOf (exec .tbRdms (withRegs (atCount 249999))) = some { quiet with read := some 999 } ∧
      outOf (exec .tbRdms (withRegs (atCount (2 ^ 62 - 1)))) = some { quiet with read := some 18446744073709551 } := by decide

/-- T9. -/
theorem test_tb_irqoff : regsOf (exec .tbIrqoff State.reset) = some { Regs.reset with ie := false } := by decide

/-- T10: the pending overflow is the next step, and a line in its place has none (30_encoding.md R91). -/
theorem test_tb_irqon :
    regsOf (Host.Core.run core 2
      { withRegs { Regs.reset with ie := false, ovfPend := true } with script := [.op 0x1400, .op 0x0400] }) =
      some { Regs.reset with mono := 256 } ∧
    refusalOf (Host.Core.run core 2
      { withRegs { Regs.reset with ie := false, ovfPend := true } with script := [.op 0x1400, .op 0x4000] }) =
      some (.overflowFirst (.op 0x4000)) := by decide

/-- E3, E4, E5. -/
theorem test_elapsed :
    elapsed 50 (BitVec.ofNat 64 (2 ^ 64 - 100)) = 150 ∧ elapsed 0 (BitVec.ofNat 64 (2 ^ 64 - 1)) = 1 ∧
      elapsed 999 1000 = BitVec.ofNat 64 (2 ^ 64 - 1) := by decide

/-! ### Buttons (95 2.3) -/

/-- The row of classifications, every band end of it. -/
theorem test_classify :
    [0, 129, 130, 165, 199, 200, 209, 210, 245, 279, 280, 339, 340, 395, 449, 450, 1023].map classify =
      [.none, .none, .dec, .dec, .dec, .none, .none, .inc, .inc, .inc, .none, .none, .mode, .mode, .mode, .none, .none] := by
  decide

/-- B3, B4, S5: a release re-arms, a move from band to band fires, a held button does not fire again. -/
theorem test_bt_sample_edges :
    sampleEdges State.reset [395, 0, 395] = [.mode, .none, .mode] ∧ sampleEdges State.reset [245, 165] = [.inc, .dec] ∧
      sampleEdges State.reset [245, 245, 250, 279, 280, 245] = [.inc, .none, .none, .none, .none, .inc] := by decide

/-- B1. -/
theorem test_bt_sample_latches :
    regsOf (exec (.btSample 395) State.reset) = some { Regs.reset with lMode := true } ∧
      outOf (exec (.btSample 395) State.reset) = some { quiet with button := some (.mode, .mode) } := by decide

/-! ### Clock (95 2.4) -/

/-- K3, K4, K5. -/
theorem test_ck_sec_rolls :
    regsOf (exec .ckSec (withRegs (clockRegs .normal 12 59 59 0))) = some (clockRegs .normal 13 0 0 0) ∧
      regsOf (exec .ckSec (withRegs (clockRegs .normal 23 59 59 0))) = some (clockRegs .normal 0 0 0 0) ∧
      regsOf (exec .ckSec (withRegs (clockRegs .normal 23 58 59 0))) = some (clockRegs .normal 23 59 0 0) := by decide

/-- K7 under both settings, K9. -/
theorem test_ck_sec_idle :
    regsOf (exec .ckSec (withRegs (clockRegs .settingHours 10 20 30 4))) = some (clockRegs .settingHours 10 20 30 5) ∧
      regsOf (exec .ckSec (withCfg { Config.ref with idleRevertStrict := false } (clockRegs .settingHours 10 20 30 4))) =
        some (clockRegs .normal 10 20 30 0) ∧
      regsOf (exec .ckSec (withRegs (clockRegs .settingMinutes 10 20 30 5))) = some (clockRegs .normal 10 20 30 0) := by decide

/-- K10, K11, K12. -/
theorem test_ck_mode :
    regsOf (exec .ckMode (withRegs (clockRegs .normal 1 2 3 0))) = some (clockRegs .settingHours 1 2 3 0) ∧
      regsOf (exec .ckMode (withRegs (clockRegs .settingHours 1 2 3 3))) = some (clockRegs .settingMinutes 1 2 3 0) ∧
      regsOf (exec .ckMode (withRegs (clockRegs .settingMinutes 1 2 3 3))) = some (clockRegs .normal 1 2 3 0) := by decide

/-- K13, K16, K18. -/
theorem test_ck_inc :
    regsOf (exec .ckInc (withRegs (clockRegs .normal 10 20 30 0))) = some (clockRegs .normal 10 20 30 0) ∧
      regsOf (exec .ckInc (withRegs (clockRegs .settingHours 23 20 30 4))) = some (clockRegs .settingHours 0 20 30 0) ∧
      regsOf (exec .ckInc (withRegs (clockRegs .settingMinutes 10 59 30 1))) = some (clockRegs .settingMinutes 10 0 30 0) := by
  decide

/-- K14, K17, K19. -/
theorem test_ck_dec :
    regsOf (exec .ckDec (withRegs (clockRegs .normal 10 20 30 0))) = some (clockRegs .normal 10 20 30 0) ∧
      regsOf (exec .ckDec (withRegs (clockRegs .settingHours 0 20 30 2))) = some (clockRegs .settingHours 23 20 30 0) ∧
      regsOf (exec .ckDec (withRegs (clockRegs .settingMinutes 10 0 30 1))) = some (clockRegs .settingMinutes 10 59 30 0) := by
  decide

/-- C1, C3 under both settings of `SEC_REMARK` (250 250 counts are 1001 ms). -/
theorem test_ck_secchk :
    regsOf (exec .ckSecchk (withRegs (atCount 249999))) = some (atCount 249999) ∧
      regsOf (exec .ckSecchk (withRegs (atCount 250250))) = some { atCount 250250 with secMark := 1000, ss := 1 } ∧
      regsOf (exec .ckSecchk (withCfg { Config.ref with secRemark := .now } (atCount 250250))) =
        some { atCount 250250 with secMark := 1001, ss := 1 } := by decide

/-- C7: in a setting state the second counts the idle time. -/
theorem test_ck_secchk_idle :
    regsOf (exec .ckSecchk (withRegs { atCount 250000 with clkmode := .settingHours, idle := 2 })) =
      some { atCount 250000 with clkmode := .settingHours, idle := 3, secMark := 1000 } ∧
    outOf (exec .ckSecchk (withRegs { atCount 250000 with clkmode := .settingHours, idle := 2 })) =
      some { quiet with hbStb := true } := by decide

/-! ### Ranging (95 2.5); a count is 4 microseconds -/

/-- G1. -/
theorem test_rg_trig :
    regsOf (exec .rgTrig (withRegs { atCount 500000 with status := true })) =
      some { atCount 500000 with rstate := .trig, trig := true, tMark := 2000000 } := by decide

/-- G2, G3. -/
theorem test_rg_trigw :
    regsOf (exec .rgTrigw (withRegs { atCount 500002 with rstate := .trig, trig := true, tMark := 2000000 })) =
      some { atCount 500002 with rstate := .trig, trig := true, tMark := 2000000 } ∧
    regsOf (exec .rgTrigw (withRegs { atCount 500003 with rstate := .trig, trig := true, tMark := 2000000 })) =
      some { atCount 500003 with rstate := .waith, tMark := 2000012 } := by decide

/-- G6, G7. -/
theorem test_rg_waith_rise :
    regsOf (exec (.rgWaith true) (withRegs { atCount 115 with rstate := .waith, tMark := 12 })) =
      some { atCount 115 with rstate := .waitl, tMark := 12, tRise := 460 } ∧
    regsOf (exec (.rgWaith true) (withRegs { atCount 3 with rstate := .waith, tMark := 12 })) =
      some { atCount 3 with rstate := .waitl, tMark := 12, tRise := 12 } := by decide

/-- G8, G10. -/
theorem test_rg_waith_timeout :
    regsOf (exec (.rgWaith false) (withRegs { atCount 250002 with rstate := .waith, tMark := 12 })) =
      some { atCount 250002 with rstate := .waith, tMark := 12 } ∧
    regsOf (exec (.rgWaith true) (withRegs { atCount 250003 with rstate := .waith, tMark := 12 })) =
      some { atCount 250003 with rstate := .recov, tMark := 1000012, rres := .noEcho } := by decide

/-- G12, G13. -/
theorem test_rg_waitl_sample :
    regsOf (exec (.rgWaitl false) (withRegs { atCount 261 with rstate := .waitl, tRise := 460 })) =
      some { atCount 261 with
        rstate := .recov, tRise := 460, tMark := 1044, dist := 10, distValid := true, rres := .ok } ∧
    regsOf (exec (.rgWaitl false) (withRegs { atCount 260 with rstate := .waitl, tRise := 460 })) =
      some { atCount 260 with
        rstate := .recov, tRise := 460, tMark := 1040, dist := 9, distValid := true, rres := .ok } ∧
    outOf (exec (.rgWaitl false) (withRegs { atCount 261 with rstate := .waitl, tRise := 460 })) =
      some { quiet with sampleStb := true } := by decide

/-- G15, G16: the timeout wins and the older distance stands. -/
theorem test_rg_waitl_timeout :
    regsOf (exec (.rgWaitl false) (withRegs
      { atCount 250115 with rstate := .waitl, tRise := 460, dist := 10, distValid := true, rres := .ok })) =
      some { atCount 250115 with
        rstate := .recov, tRise := 460, tMark := 1000460, dist := 10, distValid := true, rres := .echoStuck } := by decide

/-- G17, G18. -/
theorem test_rg_recov :
    regsOf (exec .rgRecov (withRegs { atCount 62760 with rstate := .recov, tMark := 1044 })) =
      some { atCount 62760 with rstate := .recov, tMark := 1044 } ∧
    regsOf (exec .rgRecov (withRegs { atCount 62761 with rstate := .recov, tMark := 1044 })) =
      some { atCount 62761 with tMark := 1044, status := true } := by decide

/-- G19, G20. -/
theorem test_rg_disabled :
    refusalOf (exec .rgTrigw State.reset) = some (.notEnabled .rgTrigw) ∧
      refusalOf (exec (.rgWaith true) State.reset) = some (.notEnabled (.rgWaith true)) ∧
      refusalOf (exec (.rgWaitl false) State.reset) = some (.notEnabled (.rgWaitl false)) ∧
      refusalOf (exec .rgRecov State.reset) = some (.notEnabled .rgRecov) ∧
      refusalOf (exec .rgTrig (withRegs { Regs.reset with rstate := .waith })) = some (.notEnabled .rgTrig) := by decide

/-- The row of distances of 2.5. -/
theorem test_distances :
    [0, 1, 58, 59, 116, 117, 580, 581, 582, 583, 584, 640, 641, 1164, 5820, 23280, 29100, 58200, 999996, 999999].map
      (distOfWidth Config.ref) =
      [0, 0, 0, 1, 1, 2, 9, 9, 10, 10, 10, 10, 11, 20, 100, 400, 500, 1000, 17182, 17182] := by decide

/-! ### Arbiter, sequencer, reset (95 2.6) -/

/-- A1, A2, A4, A5. -/
theorem test_ar_sel :
    regsOf (exec (.arSel true) State.reset) = some { Regs.reset with mainmode := .parking, status := true } ∧
      regsOf (exec (.arSel false) (withRegs { Regs.reset with mainmode := .parking, status := true })) =
        some { Regs.reset with status := true } ∧
      regsOf (exec (.arSel false) (withCfg { Config.ref with revActive := false } Regs.reset)) =
        some { Regs.reset with mainmode := .parking, status := true } ∧
      refusalOf (exec (.arSel true) (withRegs { Regs.reset with rstate := .waith })) = some (.notEnabled (.arSel true)) := by
  decide

/-- A8, A10: the edge is dispatched in the same step, or dropped. -/
theorem test_main_btn :
    regsOf (mainStep (inputsOfValue 395) (withRegs { Regs.reset with ph := .btn })) =
      some { Regs.reset with lMode := true, clkmode := .settingHours } ∧
    regsOf (mainStep (inputsOfValue 395)
      (withCfg { Config.ref with btnInParking := false } { Regs.reset with ph := .btn, mainmode := .parking })) =
      some { Regs.reset with lMode := true, ph := .rng, mainmode := .parking } := by decide

/-- A11. -/
theorem test_main_rng_end :
    regsOf (mainStep default (withRegs { atCount 62761 with ph := .rng, rstate := .recov, tMark := 1044, mainmode := .parking })) =
      some { atCount 62761 with tMark := 1044, status := true, mainmode := .parking } ∧
    outOf (mainStep default (withRegs { atCount 62761 with ph := .rng, rstate := .recov, tMark := 1044 })) =
      some { quiet with viewStb := true } := by decide

/-- A12. -/
theorem test_sys_reset : regsOf (exec .sysReset (withRegs { atCount 777 with ie := false, ph := .rng })) = some Regs.reset := by
  decide

/-! ### The hypotheses of the statements are met -/

theorem inv_reset : Inv State.reset := ⟨by decide, ⟨by decide, by decide, by decide⟩, by constructor <;> decide⟩

theorem witness_EveryOperationDecodesFromItsWord :
    (Instr.btSample 0).wellFormed = true ∧ (Instr.btSample 1023).wellFormed = true ∧ (Instr.arSel true).wellFormed = true := by
  decide

theorem witness_EveryDecodedWordIsItsOperationsWord :
    decode 0x23FF = .ok (.btSample 1023) ∧ decode 0x6C01 = .ok (.rgWaitl true) := ⟨rfl, rfl⟩

theorem witness_WordSelectsTheTableRow :
    (⟨"RG_WAITH", 0x6800, 0xFFFE⟩ : OpRow) ∈ opcodeTable ∧ (⟨"RG_WAITH", 0x6800, 0xFFFE⟩ : OpRow).selects 0x6801 = true := by
  decide

theorem witness_UnlistedWordIsRefused :
    famField 0xA000 = 5 ∧ famField 0xDFFF = 6 ∧ (famField 0xF800 = 7 ∧ subField 0xF800 ≠ 7) ∧
      (famField 0x6802 ≠ 1 ∧ (argField 0x6802).extractLsb' 1 9 ≠ 0) ∧
      (famField 0x0001 ≠ 1 ∧ opField 0x0001 ≠ 26 ∧ opField 0x0001 ≠ 27 ∧ opField 0x0001 ≠ 32 ∧ argField 0x0001 ≠ 0) ∧
      (scripted [.op 0x1800]).cfg.Valid ∧ interruptUrgent (scripted [.op 0x1800]).regs = false ∧
      (scripted [.op 0x1800]).script = [.op 0x1800] ∧ ∀ row ∈ opcodeTable, row.selects 0x1800 = false := by decide

theorem witness_StepRunsTheDecodedOperation :
    (scripted [.op 0x4000]).cfg.Valid ∧ (scripted [.op 0x4000]).script = [.op 0x4000] ∧ decode 0x4000 = .ok .ckSec ∧
      interruptUrgent (scripted [.op 0x4000]).regs = false ∧ decode 0x0400 = .ok .tbOvf ∧ decode 0xFC00 = .ok .sysReset :=
  ⟨by decide, rfl, rfl, by decide, rfl, rfl⟩

theorem witness_StepRunsMainPinsAndEnvironment :
    State.reset.cfg.Valid ∧ interruptUrgent State.reset.regs = false ∧ State.reset.script = [] ∧
      (scripted [.main default]).script = [.main default] ∧
      (scripted [.pins ⟨true, true, true⟩]).script = [.pins ⟨true, true, true⟩] ∧
      (scripted [.pins ⟨false, true, true⟩]).script = [.pins ⟨false, true, true⟩] ∧
      (scripted [.pins ⟨false, false, true⟩]).script = [.pins ⟨false, false, true⟩] ∧
      (scripted [.pins ⟨false, false, false⟩]).script = [.pins ⟨false, false, false⟩] ∧
      (scripted [.tick 0]).script = [.tick 0] ∧ interruptUrgent (countTimer Config.ref Regs.reset) = false ∧
      interruptUrgent (countTimer Config.ref { Regs.reset with tcnt := 255 }) = true := by decide

/-- An overflow pending and enabled before a script. -/
def urgentBefore (ls : List Line) : State := { withRegs { Regs.reset with ovfPend := true } with script := ls }

theorem witness_UrgentInterruptIsTakenFirst :
    (urgentBefore []).cfg.Valid ∧ (urgentBefore []).regs.ovfPend = true ∧ (urgentBefore []).regs.ie = true ∧
      (urgentBefore []).script = [] ∧ ((urgentBefore [.op 0x0400]).script = [.op 0x0400] ∧ decode 0x0400 = .ok .tbOvf) ∧
      (urgentBefore [.tick 0]).script = [.tick 0] ∧
      (urgentBefore [.main default]).script = [.main default] ∧ (urgentBefore [.op 0x4000]).script = [.op 0x4000] ∧
      decode 0x4000 = .ok .ckSec ∧ Instr.ckSec ≠ .tbOvf ∧ Instr.ckSec ≠ .sysReset ∧
      (urgentBefore [.pins ⟨false, true, true⟩]).script = [.pins ⟨false, true, true⟩] ∧
      (urgentBefore [.pins ⟨true, false, false⟩]).script = [.pins ⟨true, false, false⟩] :=
  ⟨by decide, rfl, rfl, rfl, ⟨rfl, rfl⟩, rfl, rfl, rfl, rfl, by decide, by decide, rfl, rfl⟩

theorem witness_TimerCountsAndWraps :
    (withRegs { Regs.reset with tcnt := 255 }).regs.tcnt < Config.ref.tmrRange ∧ Config.ref.tmrRange - 1 = 255 ∧
      (withRegs { Regs.reset with tcnt := 254 }).regs.tcnt < Config.ref.tmrRange := by decide

theorem witness_OverflowHandlerAddsTheRange :
    ((urgentBefore [.op 0x0400]).regs.ovfPend = true ∧ (urgentBefore [.op 0x0400]).regs.ie = true) ∧
      (regsOf (step (urgentBefore [.op 0x0400])) = some { Regs.reset with mono := 256 }) ∧ State.reset.regs.ovfPend = false ∧
      (withRegs { Regs.reset with ovfPend := true, ie := false }).regs.ie = false := by decide

theorem witness_ElapsedTimeIsForwardAcrossAWrap : (0 : Nat) < 2 ^ 64 ∧ 2 ^ 64 - 1 < 2 ^ 64 := by decide

theorem witness_EveryStepKeepsTheCountingLaw :
    Inv (scripted [.op 0x0000]) ∧ CountLaw (scripted [.op 0x0000]) ∧ ∃ t, step (scripted [.op 0x0000]) = .next t :=
  ⟨⟨by decide, ⟨by decide, by decide, by decide⟩, by constructor <;> decide⟩, fun _ => by decide, _, rfl⟩

/-- An overflow pending, the interrupt about to be enabled again, `TB_OVF` to follow. -/
def suppressed : State := { withRegs { Regs.reset with ovfPend := true, ie := false } with script := [.op 0x0400] }

theorem witness_InterruptEnableIsClearedAndSet :
    suppressed.regs.ovfPend = true ∧ ∃ t u, exec .tbIrqon suppressed = .next t ∧ step t = .next u := ⟨rfl, _, _, rfl, rfl⟩

theorem witness_TimerIsNeverStarved : Running State.reset := ⟨inv_reset, fun _ => rfl, rfl⟩

theorem witness_EnvironmentIsExactlyTheFairOne : Fair (fun _ => .count) ∧ envStream (fun _ => .readUs) (fun _ => 2) 2 = .count :=
  ⟨fun n => ⟨n, Nat.le_refl n, rfl⟩, by decide⟩

theorem witness_ScriptRunsToItsEndAndNoFurther :
    (∃ t, runScript (scripted [.op 0x4000, .tick 1]) = .next t) ∧ scriptSteps [.op 0x4000, .tick 1] ≤ 5 := ⟨⟨_, rfl⟩, by decide⟩

theorem witness_ResetLeavesTheStatedValues :
    (urgentBefore [.pins ⟨true, true, false⟩]).cfg.Valid ∧
      (urgentBefore [.pins ⟨true, true, false⟩]).script = [.pins ⟨true, true, false⟩] := by decide

/-- The time base after `n` counts with every overflow served. -/
def counted (n : Nat) : State := { withRegs (atCount n) with counts := n }

theorem witness_ReadingIsTheTrueTime :
    Inv (counted 511) ∧ CountLaw (counted 511) ∧ (counted 511).lost = false ∧ (counted 511).regs.ovfPend = false ∧
      (counted 511).counts < 2 ^ 64 :=
  ⟨⟨by decide, ⟨by decide, by decide, by decide⟩, by constructor <;> decide⟩, fun _ => by decide, rfl, rfl, by decide⟩

theorem witness_IntegerQuantumReadsThroughEveryWrap :
    Inv (counted (2 ^ 64 + 3)) ∧ CountLaw (counted (2 ^ 64 + 3)) ∧ (counted (2 ^ 64 + 3)).lost = false ∧
      (counted (2 ^ 64 + 3)).regs.ovfPend = false ∧ (counted (2 ^ 64 + 3)).cfg.usDen = 1 :=
  ⟨⟨by decide, ⟨by decide, by decide, by decide⟩, by constructor <;> decide⟩, fun _ => by decide, rfl, rfl, rfl⟩

theorem witness_ReadingsNeverGoBack :
    Inv (scripted [.op 0x0000]) ∧ CountLaw (scripted [.op 0x0000]) ∧
      ∃ t, Host.Core.run core 1 (scripted [.op 0x0000]) = .next t ∧ (scripted [.op 0x0000]).lost = false ∧ t.lost = false ∧
        (scripted [.op 0x0000]).regs.ovfPend = false ∧ t.regs.ovfPend = false ∧ (scripted [.op 0x0000]).counts ≤ t.counts ∧
        t.counts < 2 ^ 64 ∧ t.counts * t.cfg.usNum / t.cfg.usDen < 2 ^ 64 :=
  ⟨⟨by decide, ⟨by decide, by decide, by decide⟩, by constructor <;> decide⟩, fun _ => by decide, _, rfl, rfl, by decide,
    rfl, by decide, by decide, by decide, by decide⟩

theorem witness_TicksMoveTheTimeBaseByTheirNumber :
    Inv (counted 255) ∧ (counted 255).script = [] ∧ (counted 255).regs.ie = true ∧ (counted 255).regs.ovfPend = false :=
  ⟨⟨by decide, ⟨by decide, by decide, by decide⟩, by constructor <;> decide⟩, rfl, rfl, rfl⟩

theorem witness_GuardedReadReturnsTheTime : State.reset.cfg.Valid ∧ interruptUrgent State.reset.regs = false := by decide

/-- The last count before a wrap, the interrupt disabled and an overflow already pending. -/
def aboutToLose : State :=
  { withRegs { Regs.reset with tcnt := 255, ovfPend := true, ie := false } with script := [.op 0x0000] }

theorem witness_OverflowIsLostOnlyWithInterruptsOff :
    ∃ t, step aboutToLose = .next t ∧ aboutToLose.lost = false ∧ t.lost = true := ⟨_, rfl, rfl, by decide⟩

theorem witness_MonoStandsStillWhileInterruptsAreOff : aboutToLose.regs.ie = false ∧ ∃ t, step aboutToLose = .next t :=
  ⟨rfl, _, rfl⟩

theorem witness_BandTableClassifiesEveryReading :
    (129 < 1024 ∧ 129 ≤ 129) ∧ (130 ≤ 130 ∧ 199 ≤ 199) ∧ (200 ≤ 200 ∧ 209 ≤ 209) ∧ (210 ≤ 210 ∧ 279 ≤ 279) ∧
      (280 ≤ 280 ∧ 339 ≤ 339) ∧ (340 ≤ 340 ∧ 449 ≤ 449) ∧ (1023 < 1024 ∧ 450 ≤ 1023) := by decide

theorem witness_button_is_not_none : ButtonId.mode ≠ .none ∧ ButtonId.inc ≠ .none ∧ ButtonId.dec ≠ .none := by decide

theorem witness_SecondAdvancesTheTimeOfDay :
    (withRegs (clockRegs .normal 23 59 59 0)).regs.clkmode = .normal ∧
      TimeInRange (withRegs (clockRegs .normal 23 59 59 0)).regs ∧ TimeInRange State.reset.regs :=
  ⟨rfl, ⟨by decide, by decide, by decide⟩, ⟨by decide, by decide, by decide⟩⟩

theorem witness_SecondInASettingStateCountsIdle :
    (withRegs (clockRegs .settingHours 1 2 3 4)).regs.clkmode ≠ .normal ∧ 3 ≤ Config.ref.idleW ∧
      Config.ref.idleRevertStrict = true ∧ (withRegs (clockRegs .settingHours 1 2 3 4)).regs.idle ≤ 4 ∧
      5 ≤ (withRegs (clockRegs .settingMinutes 1 2 3 5)).regs.idle ∧
      (withCfg { Config.ref with idleRevertStrict := false, idleW := 3 } (clockRegs .settingMinutes 1 2 3 3)).regs.idle ≤ 3 ∧
      4 ≤ (withCfg { Config.ref with idleRevertStrict := false, idleW := 3 } (clockRegs .settingHours 1 2 3 4)).regs.idle := by
  decide

theorem witness_SecondsAddUpModuloADay : State.reset.regs.clkmode = .normal ∧ TimeInRange State.reset.regs ∧ 86400 ∣ 86400 :=
  ⟨rfl, ⟨by decide, by decide, by decide⟩, by decide⟩

theorem witness_IdleTimeoutRevertsToNormal :
    (withRegs (clockRegs .settingMinutes 1 2 3 0)).regs.clkmode ≠ .normal ∧
      (withRegs (clockRegs .settingMinutes 1 2 3 0)).regs.idle = 0 ∧ 3 ≤ Config.ref.idleW ∧ 5 < revertCount Config.ref ∧
      4 < revertCount { Config.ref with idleRevertStrict := false } := by decide

/-- Every mode, for the clauses of the three button operations. -/
theorem witness_every_clock_mode :
    (withRegs (clockRegs .normal 0 0 0 0)).regs.clkmode = .normal ∧
      (withRegs (clockRegs .settingHours 23 0 0 5)).regs.clkmode = .settingHours ∧
      (withRegs (clockRegs .settingMinutes 0 59 0 5)).regs.clkmode = .settingMinutes := by decide

theorem witness_DecrementUndoesIncrement : TimeInRange (withRegs (clockRegs .settingHours 23 59 59 0)).regs :=
  ⟨by decide, by decide, by decide⟩

theorem witness_SecondCheckAppliesOneSecond :
    Config.ref.secPeriodMs ≤ (elapsed (nowMs Config.ref (atCount 250000)) (atCount 250000).secMark).toNat ∧
      (elapsed (nowMs Config.ref (atCount 249999)) (atCount 249999).secMark).toNat < Config.ref.secPeriodMs ∧
      Config.ref.secRemark = .add ∧ { Config.ref with secRemark := .now }.secRemark = .now := by decide

/-- The five states of a cycle, each at the last poll before its bound and the first at it. -/
theorem witness_ranging_polls :
    State.reset.regs.rstate = .idle ∧ (withRegs { Regs.reset with rstate := .recov }).regs.rstate ≠ .idle ∧
      { Config.ref with trigPulseUs := 12 }.trigPulseUs ≤ (elapsed (nowUs Config.ref (atCount 3)) 0).toNat ∧
      (elapsed (nowUs Config.ref (atCount 2)) 0).toNat < Config.ref.trigPulseUs ∧
      1000000 ≤ (elapsed (nowUs Config.ref (atCount 250003)) 12).toNat ∧
      (elapsed (nowUs Config.ref (atCount 250002)) 12).toNat < 1000000 ∧
      Config.ref.echoLowTimeoutUs ≤ (elapsed (nowUs Config.ref (atCount 250115)) 460).toNat ∧
      (elapsed (nowUs Config.ref (atCount 250114)) 460).toNat < Config.ref.echoLowTimeoutUs ∧
      250000 ≤ (elapsed (nowUs Config.ref (atCount 62761)) 1044).toNat ∧
      (elapsed (nowUs Config.ref (atCount 62760)) 1044).toNat < 250000 := by decide

theorem witness_DistanceIsTheWidthDividedRoundedDown :
    Config.ref.Valid ∧ 999999 < Config.ref.echoLowTimeoutUs ∧ 999998 ≤ 999999 := by decide

/-- A poll that sees the fall in time. -/
def fallSeen : State := withRegs { atCount 261 with rstate := .waitl, tRise := 460 }

theorem witness_SampleOnlyFromAFallInTime :
    fallSeen.cfg.Valid ∧ (∃ t, exec (.rgWaitl false) fallSeen = .next t ∧ t.out.sampleStb = true) ∧
      echoWidth fallSeen.cfg fallSeen.regs < fallSeen.cfg.echoLowTimeoutUs ∧
      ∃ t, exec .ckSec fallSeen = .next t ∧ t.out.sampleStb = false ∧ Instr.ckSec ≠ .sysReset :=
  ⟨by decide, ⟨_, rfl, by decide⟩, by decide, _, rfl, by decide, by decide⟩

theorem witness_MeasurementCycleFollowsItsTable : (∃ t, exec .rgTrig State.reset = .next t) ∧ Instr.rgTrig ≠ .sysReset :=
  ⟨⟨_, rfl⟩, by decide⟩

theorem witness_ArbiterSelectsTheModeOfTheFrame :
    State.reset.regs.rstate = .idle ∧ true = State.reset.cfg.revActive ∧ false ≠ State.reset.cfg.revActive ∧
      (withRegs { Regs.reset with rstate := .waith }).regs.rstate ≠ .idle := by decide

/-- One state for each row of the sequencer's table. -/
def rowState (p : Phase) (q : RState) (m : MainMode) : State := withRegs { Regs.reset with ph := p, rstate := q, mainmode := m }

theorem witness_SequencerPerformsTheTableRow :
    ((rowState .arb .idle .clock).regs.ph = .arb ∧ (rowState .arb .idle .clock).regs.rstate = .idle) ∧
      (rowState .sec .idle .clock).regs.ph = .sec ∧
      ((rowState .btn .idle .clock).regs.ph = .btn ∧ (rowState .btn .idle .clock).regs.mainmode = .clock) ∧
      ((rowState .btn .idle .parking).regs.ph = .btn ∧ (rowState .btn .idle .parking).regs.mainmode = .parking) ∧
      [RState.idle, .trig, .waith, .waitl, .recov].all (fun q => decide ((rowState .rng q .parking).regs.ph = .rng ∧
        (rowState .rng q .parking).regs.rstate = q)) = true ∧
      (∃ u, exec .rgRecov (rowState .rng .recov .parking) = .next u ∧ u.regs.rstate ≠ .idle) ∧
      (∃ u, exec .rgRecov (withRegs { atCount 62500 with ph := .rng, rstate := .recov }) = .next u ∧ u.regs.rstate = .idle) :=
  ⟨by decide, by decide, by decide, by decide, by decide, ⟨_, rfl, by decide⟩, _, rfl, by decide⟩

theorem witness_DispatchActsAsTheClockOperation :
    (rowState .btn .idle .parking).regs.mainmode = .parking ∧ { Config.ref with btnInParking := false }.btnInParking = false ∧
      State.reset.regs.mainmode = .clock ∧ Config.ref.btnInParking = true ∧ (rowState .btn .idle .parking).regs.ph = .btn := by
  decide

/-- Four steps of MAIN, the reverse line at one level. -/
def frame (rev : Bool) : State := scripted (List.replicate 4 (.main ⟨rev, 0, false⟩))

theorem witness_ClockFrameIsThreeSteps :
    (frame false).cfg.Valid ∧ interruptUrgent (frame false).regs = false ∧ (frame false).regs.ph = .arb ∧
      (frame false).regs.rstate = .idle ∧ (frame false).script.length = 4 ∧ false ≠ (frame false).cfg.revActive := by decide

theorem witness_ParkingFrameStartsACycle :
    (frame true).cfg.Valid ∧ interruptUrgent (frame true).regs = false ∧ (frame true).regs.ph = .arb ∧
      (frame true).regs.rstate = .idle ∧ (frame true).script.length = 4 ∧ true = (frame true).cfg.revActive := by decide

theorem witness_FrameModeIsTheSampledLevel :
    (∃ t, mainStep default State.reset = .next t) ∧ State.reset.regs.ph = .arb ∧
      (∃ t, mainStep default (rowState .sec .idle .clock) = .next t) ∧ (rowState .sec .idle .clock).regs.ph ≠ .arb ∧
      (∃ t, exec .ckSec State.reset = .next t) ∧
      Instr.ckSec ≠ .arSel true ∧ Instr.ckSec ≠ .arSel false ∧ Instr.ckSec ≠ .sysReset :=
  ⟨⟨_, rfl⟩, rfl, ⟨_, rfl⟩, by decide, ⟨_, rfl⟩, by decide, by decide, by decide⟩

theorem witness_EachAgentWritesOnlyItsRegisters :
    ((∃ t, exec .ckSec State.reset = .next t) ∧ Instr.ckSec.agents = [.main]) ∧
      ((∃ t, exec .tbCount State.reset = .next t) ∧ Instr.tbCount.agents = [.tmr]) ∧
      ((∃ t, exec .tbOvf (urgentBefore []) = .next t) ∧ Instr.tbOvf.agents = [.irq]) ∧
      ((∃ t, exec .tbIrqoff State.reset = .next t) ∧ Agent.host ∈ Instr.tbIrqoff.agents ∧ Instr.tbIrqoff ≠ .sysReset) :=
  ⟨⟨⟨_, rfl⟩, rfl⟩, ⟨⟨_, rfl⟩, rfl⟩, ⟨⟨_, rfl⟩, rfl⟩, ⟨_, rfl⟩, by decide, by decide⟩

theorem witness_StrobesPulseOnlyInTheirSteps :
    (∃ t, exec .ckSecchk (withRegs (atCount 250000)) = .next t ∧ t.out.hbStb = true) ∧
      (∃ t, exec (.rgWaitl false) fallSeen = .next t ∧ t.out.sampleStb = true) ∧
      ∃ t, mainStep default (rowState .btn .idle .clock) = .next t ∧ t.out.viewStb = true :=
  ⟨⟨_, rfl, by decide⟩, ⟨_, rfl, by decide⟩, _, rfl, by decide⟩

theorem witness_InvariantsHoldAtReset : Config.ref.Valid := by decide

theorem witness_EveryOperationKeepsTheInvariants : Inv State.reset ∧ ∃ t, exec .rgTrig State.reset = .next t :=
  ⟨inv_reset, _, rfl⟩

theorem witness_EveryStepKeepsTheInvariants :
    Inv (frame true) ∧ SeqInv (frame true) ∧ systemLine (nextLine (frame true)) = true ∧ ∃ t, step (frame true) = .next t :=
  ⟨⟨by decide, ⟨by decide, by decide, by decide⟩, by constructor <;> decide⟩, fun _ => rfl, by decide, _, rfl⟩

theorem witness_RunningBlockNeverStops : Running State.reset := ⟨inv_reset, fun _ => rfl, rfl⟩

theorem witness_EveryRunFromResetStaysSafe : { Config.ref with tmrW := 32, usNum := 1, usDen := 3 }.Valid := by decide

theorem witness_HeldSampleDrivesNothing :
    ∃ t, step { fallSeen with script := [.op 0x6C00] } = .next t ∧ t.regs.dist = 10 := ⟨_, rfl, by decide⟩

end Sys2Proof.Tests
end

/-! PROOFS of the statements about the whole state (10_state.md): what every operation and every step keeps, what the
registers held for the ports leave alone, the strobes, and the lines of an execution. -/

namespace Sys2Proof.Machine

/-! ### The invariants of 10_state.md R38 under each effect on the registers -/

/-- No ClockMode has the reserved code (10_state.md R38 (b), 30_encoding.md R86). -/
theorem ClkMode.code_ne_reserved (m : ClkMode) : m.code ≠ 3 := by cases m <;> decide

/-- No state of a cycle has a reserved code (10_state.md R38 (e), 30_encoding.md R86). -/
theorem RState.code_toNat_le (q : RState) : q.code.toNat ≤ 4 := by cases q <;> decide

theorem fits_reset (c : Config) : Fits c Regs.reset :=
  ⟨Nat.two_pow_pos _, Nat.two_pow_pos _, Nat.two_pow_pos _⟩

theorem regInv_reset (c : Config) : RegInv c Regs.reset where
  hours := by decide
  minutes := by decide
  seconds := by decide
  clkmode := ClkMode.code_ne_reserved _
  idle := Nat.zero_le _
  idleNormal := fun _ => rfl
  rstate := RState.code_toNat_le _
  latches := by decide
  mono := Nat.zero_mod _
  trig := by decide
  status := fun h => absurd rfl h
  noDistance := fun _ => rfl
  noResult := fun _ => rfl

section
variable {c : Config} {r : Regs}

theorem RegInv.timeInRange (h : RegInv c r) : TimeInRange r := ⟨h.hours, h.minutes, h.seconds⟩

/-- Outside `R_TRIG` the trigger output is low (10_state.md R38 (h)). -/
theorem RegInv.trig_low (h : RegInv c r) (hr : r.rstate ≠ .trig) : r.trig = false :=
  Bool.eq_false_iff.2 (mt h.trig.1 hr)

/-! Time base -/

theorem Fits.countTimer_keeps (h : Fits c r) : Fits c (countTimer c r) where
  tcnt := by unfold countTimer; split <;> exact Nat.mod_lt _ (Nat.two_pow_pos _)
  idle := by simpa using h.idle
  dist := by simpa using h.dist

theorem RegInv.countTimer_keeps (h : RegInv c r) : RegInv c (countTimer c r) := by
  rw [countTimer_frame]
  exact { h with }

/-- The handler adds the timer's range, which divides 2^64, so (g) of R38 outlives the wrap of `MONO`. -/
theorem RegInv.takeOverflow_keeps (hv : c.Valid) (h : RegInv c r) : RegInv c (takeOverflow c r) :=
  { h with
    mono := by rw [takeOverflow_mono_toNat, Nat.mod_mod_of_dvd _ (tmrRange_dvd hv), Nat.add_mod_right, h.mono] }

/-! Buttons -/

/-- The bands are disjoint, so at most one latch is set (10_state.md R38 (f)). -/
theorem RegInv.latchBands_keeps (h : RegInv c r) (raw : Nat) : RegInv c (latchBands r raw) :=
  { h with
    latches := by
      rcases classify_cases raw with ⟨-, hm, hi, hd⟩ | ⟨-, hm, hi, hd⟩ | ⟨-, hm, hi, hd⟩ | ⟨-, hm, hi, hd⟩ <;>
        simp [hm, hi, hd] }

/-! Clock -/

theorem Fits.applySecond_keeps (h : Fits c r) : Fits c (applySecond c r) where
  tcnt := by simpa using h.tcnt
  idle := by
    unfold applySecond idleSecond
    split
    · simpa using h.idle
    all_goals split
    all_goals simp [Nat.mod_lt]
  dist := by simpa using h.dist

theorem RegInv.advanceTime_keeps (h : RegInv c r) : RegInv c (advanceTime r) := by
  obtain ⟨-, ⟨hh, hm, hs⟩, hframe⟩ := advanceTime_spec h.timeInRange
  rw [hframe]
  exact { h with hours := hh, minutes := hm, seconds := hs }

/-- In a setting state the idle count stays within its bound or the state reverts with the count 0. -/
theorem RegInv.idleSecond_keeps (h : RegInv c r) (hset : r.clkmode ≠ .normal) : RegInv c (idleSecond c r) := by
  rcases idleSecond_cases c r with ⟨-, heq⟩ | ⟨hstay, heq⟩ <;> rw [heq]
  · exact { h with clkmode := ClkMode.code_ne_reserved _, idle := Nat.zero_le _, idleNormal := fun _ => rfl }
  · have hle : r.idle + 1 ≤ idleBound c := Nat.not_lt.1 (mt idleReverts_iff.2 (Bool.eq_false_iff.1 hstay))
    exact { h with idle := (Nat.mod_le _ _).trans hle, idleNormal := fun hn => absurd hn hset }

theorem RegInv.applySecond_keeps (h : RegInv c r) : RegInv c (applySecond c r) := by
  unfold applySecond
  split
  case h_1 => exact h.advanceTime_keeps
  case h_2 hm => exact h.idleSecond_keeps (by simp [hm])
  case h_3 hm => exact h.idleSecond_keeps (by simp [hm])

theorem Fits.remark_keeps (h : Fits c r) : Fits c (remark c r) := by
  rw [remark_frame]
  exact { h with }

theorem RegInv.remark_keeps (h : RegInv c r) : RegInv c (remark c r) := by
  rw [remark_frame]
  exact { h with }

theorem RegInv.modeEdge_keeps (h : RegInv c r) : RegInv c (modeEdge r) :=
  { h with clkmode := ClkMode.code_ne_reserved _, idle := Nat.zero_le _, idleNormal := fun _ => rfl }

theorem RegInv.addHours_keeps (h : RegInv c r) (n : Nat) : RegInv c (addHours r n) :=
  { h with
    hours := by
      have := Nat.mod_lt (r.hh.toNat + n) (show 0 < 24 by decide)
      simp [Config.hoursMod]
      omega
    idle := Nat.zero_le _
    idleNormal := fun _ => rfl }

theorem RegInv.addMinutes_keeps (h : RegInv c r) (n : Nat) : RegInv c (addMinutes r n) :=
  { h with
    minutes := by
      have := Nat.mod_lt (r.mm.toNat + n) (show 0 < 60 by decide)
      simp [Config.minMod]
      omega
    idle := Nat.zero_le _
    idleNormal := fun _ => rfl }

theorem RegInv.incEdge_keeps (h : RegInv c r) : RegInv c (incEdge r) := by
  unfold incEdge
  split
  · exact h
  · exact h.addHours_keeps 1
  · exact h.addMinutes_keeps 1

theorem RegInv.decEdge_keeps (h : RegInv c r) : RegInv c (decEdge r) := by
  unfold decEdge
  split
  · exact h
  · exact h.addHours_keeps 23
  · exact h.addMinutes_keeps 59

theorem Fits.modeEdge_keeps (h : Fits c r) : Fits c (modeEdge r) := { h with idle := Nat.two_pow_pos _ }

theorem Fits.incEdge_keeps (h : Fits c r) : Fits c (incEdge r) := by
  unfold incEdge
  split
  · exact h
  all_goals exact { h with idle := Nat.two_pow_pos _ }

theorem Fits.decEdge_keeps (h : Fits c r) : Fits c (decEdge r) := by
  unfold decEdge
  split
  · exact h
  all_goals exact { h with idle := Nat.two_pow_pos _ }

/-! Ranging -/

theorem RegInv.startCycle_keeps (h : RegInv c r) : RegInv c (startCycle c r) :=
  { h with
    rstate := RState.code_toNat_le _
    trig := iff_of_true rfl rfl
    status := fun _ => rfl }

theorem RegInv.pollTrigger_keeps (h : RegInv c r) (hr : r.rstate = .trig) : RegInv c (pollTrigger c r) := by
  rcases pollTrigger_cases c r with ⟨-, heq⟩ | ⟨-, heq⟩ <;> rw [heq]
  · exact { h with
      rstate := RState.code_toNat_le _
      trig := iff_of_false (by simp) (by simp)
      status := fun _ => h.status (by simp [hr]) }
  · exact h

/-- A wait that times out goes to recovery: it leaves `TRIG` and `STATUS` low and names a result. -/
theorem RegInv.noSample_keeps (h : RegInv c r) (hidle : r.rstate ≠ .idle) (htrig : r.rstate ≠ .trig) {why : RRes}
    (hwhy : why ≠ .none) : RegInv c (noSample c r why) :=
  { h with
    rstate := RState.code_toNat_le _
    trig := iff_of_false (by simp [h.trig_low htrig]) (by simp)
    status := fun _ => h.status hidle
    noResult := fun hn => absurd hn hwhy }

theorem RegInv.pollRise_keeps (h : RegInv c r) (hr : r.rstate = .waith) (lvl : Bool) : RegInv c (pollRise c r lvl) := by
  rcases pollRise_cases c r lvl with ⟨-, heq⟩ | ⟨-, -, heq⟩ | ⟨-, -, heq⟩ <;> rw [heq]
  · exact h.noSample_keeps (by simp [hr]) (by simp [hr]) (by decide)
  · exact { h with
      rstate := RState.code_toNat_le _
      trig := iff_of_false (by simp [h.trig_low, hr]) (by simp)
      status := fun _ => h.status (by simp [hr]) }
  · exact h

theorem Fits.pollFall_keeps (h : Fits c r) (lvl : Bool) : Fits c (pollFall c r lvl) := by
  rcases pollFall_cases c r lvl with ⟨-, -, heq⟩ | ⟨-, -, -, heq⟩ | ⟨-, -, -, heq⟩ <;> rw [heq]
  · exact { h with }
  · exact { h with dist := Nat.mod_lt _ (Nat.two_pow_pos _) }
  · exact h

theorem RegInv.takeSample_keeps (h : RegInv c r) (hr : r.rstate = .waitl) : RegInv c (takeSample c r) :=
  { h with
    rstate := RState.code_toNat_le _
    trig := iff_of_false (by simp [h.trig_low, hr]) (by simp)
    status := fun _ => h.status (by simp [hr])
    noDistance := fun hn => absurd hn (by simp)
    noResult := fun hn => absurd hn (by simp) }

theorem RegInv.pollFall_keeps (h : RegInv c r) (hr : r.rstate = .waitl) (lvl : Bool) : RegInv c (pollFall c r lvl) := by
  rcases pollFall_cases c r lvl with ⟨-, -, heq⟩ | ⟨-, -, -, heq⟩ | ⟨-, -, -, heq⟩ <;> rw [heq]
  · exact h.noSample_keeps (by simp [hr]) (by simp [hr]) (by decide)
  · exact h.takeSample_keeps hr
  · exact h

theorem RegInv.pollRecovery_keeps (h : RegInv c r) (hr : r.rstate = .recov) : RegInv c (pollRecovery c r) := by
  rcases pollRecovery_cases c r with ⟨-, heq⟩ | ⟨-, heq⟩ <;> rw [heq]
  · exact { h with
      rstate := RState.code_toNat_le _
      trig := iff_of_false (by simp [h.trig_low, hr]) (by simp)
      status := fun hn => absurd rfl hn }
  · exact h

/-! Arbiter -/

/-- The arbiter raises `STATUS` only in `R_IDLE`, so (i) of R38 stands. -/
theorem RegInv.selectMode_keeps (h : RegInv c r) (hr : r.rstate = .idle) (lvl : Bool) : RegInv c (selectMode c r lvl) := by
  rcases selectMode_cases c r lvl with ⟨-, heq⟩ | ⟨-, heq⟩ <;> rw [heq]
  · exact { h with status := fun hn => absurd hr hn }
  · exact { h with }

/-! Every operation -/

theorem Fits.regsAfter_keeps (h : Fits c r) (i : Instr) : Fits c (regsAfter c r i) := by
  cases i with
  | tbCount => exact h.countTimer_keeps
  | ckSec => exact h.applySecond_keeps
  | ckMode => exact h.modeEdge_keeps
  | ckInc => exact h.incEdge_keeps
  | ckDec => exact h.decEdge_keeps
  | ckSecchk =>
    simp only [regsAfter]
    split
    · exact h.remark_keeps.applySecond_keeps
    · exact h
  | rgWaitl lvl => exact h.pollFall_keeps lvl
  | sysReset => exact fits_reset c
  | _ => constructor <;> simp [regsAfter, h.tcnt, h.idle, h.dist]

theorem RegInv.regsAfter_keeps (hv : c.Valid) (h : RegInv c r) {i : Instr} (he : enabled r i = true) :
    RegInv c (regsAfter c r i) := by
  cases i with
  | tbCount => exact h.countTimer_keeps
  | tbOvf => exact h.takeOverflow_keeps hv
  | tbRdus => exact h
  | tbRdms => exact h
  | tbIrqoff => exact { h with }
  | tbIrqon => exact { h with }
  | btSample raw => exact h.latchBands_keeps raw
  | ckSec => exact h.applySecond_keeps
  | ckMode => exact h.modeEdge_keeps
  | ckInc => exact h.incEdge_keeps
  | ckDec => exact h.decEdge_keeps
  | ckSecchk =>
    simp only [regsAfter]
    split
    · exact h.remark_keeps.applySecond_keeps
    · exact h
  | rgTrig => exact h.startCycle_keeps
  | rgTrigw => exact h.pollTrigger_keeps (of_decide_eq_true he)
  | rgWaith lvl => exact h.pollRise_keeps (of_decide_eq_true he) lvl
  | rgWaitl lvl => exact h.pollFall_keeps (of_decide_eq_true he) lvl
  | rgRecov => exact h.pollRecovery_keeps (of_decide_eq_true he)
  | arSel lvl => exact h.selectMode_keeps (of_decide_eq_true he) lvl
  | sysReset => exact regInv_reset c

end

theorem Inv.exec_keeps {i : Instr} {s t : State} (h : Inv s) (hx : exec i s = .next t) : Inv t := by
  obtain ⟨he, rfl⟩ := exec_eq_next.1 hx
  exact ⟨h.valid, h.fits.regsAfter_keeps i, h.regs.regsAfter_keeps h.valid he⟩

/-! ### A step of MAIN, a line, a step of an execution -/

/-- What the dispatch of an edge can do: nothing, or the clock operation of that button (44_arbiter_sequencer.md R186). -/
theorem dispatchEdge_cases (c : Config) (e : ButtonId) (r : Regs) :
    dispatchEdge c e r = r ∨ dispatchEdge c e r = modeEdge r ∨ dispatchEdge c e r = incEdge r ∨
      dispatchEdge c e r = decEdge r := by
  unfold dispatchEdge
  split
  case isFalse => exact .inl rfl
  case isTrue => cases e <;> simp

theorem Fits.dispatchEdge_keeps {c : Config} {r : Regs} (h : Fits c r) (e : ButtonId) : Fits c (dispatchEdge c e r) := by
  rcases dispatchEdge_cases c e r with heq | heq | heq | heq <;> rw [heq]
  · exact h
  · exact h.modeEdge_keeps
  · exact h.incEdge_keeps
  · exact h.decEdge_keeps

theorem RegInv.dispatchEdge_keeps {c : Config} {r : Regs} (h : RegInv c r) (e : ButtonId) :
    RegInv c (dispatchEdge c e r) := by
  rcases dispatchEdge_cases c e r with heq | heq | heq | heq <;> rw [heq]
  · exact h
  · exact h.modeEdge_keeps
  · exact h.incEdge_keeps
  · exact h.decEdge_keeps

/-- The sequencer's own writes, the dispatch and `PH`, keep the invariants. -/
theorem Inv.finishMain_keeps {t : State} (h : Inv t) (before : Regs) : Inv (finishMain before t) where
  valid := h.valid
  fits := { h.fits.dispatchEdge_keeps t.out.edge with }
  regs := { h.regs.dispatchEdge_keeps t.out.edge with }

theorem Inv.mainStep_keeps {inp : Inputs} {s t : State} (h : Inv s) (hm : mainStep inp s = .next t) : Inv t := by
  obtain ⟨u, hu, rfl⟩ := andThen_eq_next.1 hm
  exact (h.exec_keeps hu).finishMain_keeps s.regs

/-- A clock edge at the control ports is one of HOST's operations or changes no register (10_state.md R41). -/
theorem hostEdge_eq_next {p : Pins} {s t : State} (h : hostEdge p s = .next t) :
    (∃ i, i.agents ≠ [.main] ∧ exec i s = .next t) ∨ s.commit s.regs quiet = t := by
  unfold hostEdge at h
  split at h
  · exact .inl ⟨_, by decide, h⟩
  split at h
  · exact .inl ⟨_, by decide, h⟩
  split at h
  · exact .inl ⟨_, by decide, h⟩
  · cases h
    exact .inr rfl

theorem Inv.runLine_keeps {l : Line} {s t : State} (h : Inv s) (hl : runLine l s = .next t) : Inv t := by
  rcases runLine_cases hl with ⟨w, i, -, -, hx⟩ | ⟨inp, -, hm⟩ | ⟨p, -, hp⟩ | ⟨n, -, rfl⟩
  · exact h.exec_keeps hx
  · exact h.mainStep_keeps hm
  · rcases hostEdge_eq_next hp with ⟨i, -, hx⟩ | rfl
    · exact h.exec_keeps hx
    · exact { h with }
  · have hcount : Inv (after .tbCount s) := h.exec_keeps (exec_of_enabled rfl)
    exact { hcount with }

theorem Inv.takeLine_keeps {s : State} (h : Inv s) : Inv (takeLine s) :=
  ⟨by simpa using h.valid, by simpa using h.fits, by simpa using h.regs⟩

theorem Inv.step_keeps {s t : State} (h : Inv s) (hs : step s = .next t) : Inv t := by
  obtain ⟨-, ⟨hu, -, -, rfl⟩ | ⟨-, hl⟩⟩ := step_cases hs
  · exact h.exec_keeps (exec_of_enabled hu)
  · exact h.takeLine_keeps.runLine_keeps hl

/-! ### Clause (l) of 10_state.md R38 -/

/-- TMR, IRQ and HOST write neither `PH` nor `RSTATE`, unless HOST resets (20_memory.md R68). -/
theorem regsAfter_of_agents_ne_main {i : Instr} (hi : i.agents ≠ [.main]) (c : Config) (r : Regs) :
    i = .sysReset ∨ ((regsAfter c r i).ph = r.ph ∧ (regsAfter c r i).rstate = r.rstate) := by
  cases i <;> simp_all [Instr.agents, regsAfter]

theorem SeqInv.exec_keeps {i : Instr} {s t : State} (h : SeqInv s) (hi : i.agents ≠ [.main]) (hx : exec i s = .next t) :
    SeqInv t := by
  obtain ⟨-, rfl⟩ := exec_eq_next.1 hx
  rcases regsAfter_of_agents_ne_main hi s.cfg s.regs with rfl | ⟨hph, hrs⟩
  · exact fun _ => rfl
  · intro hne
    rw [after_regs, hph] at hne
    rw [after_regs, hrs, h hne]

/-- Outside `P_RNG` the sequencer's operations leave the cycle alone (44_arbiter_sequencer.md R184). -/
theorem mainOp_rstate {r : Regs} (hp : r.ph ≠ .rng) (inp : Inputs) (c : Config) :
    (regsAfter c r (mainOp r inp)).rstate = r.rstate := by
  unfold mainOp
  cases hph : r.ph with
  | arb => simp [regsAfter]
  | sec => simp only [regsAfter]; split <;> simp
  | btn => simp [regsAfter]
  | rng => exact absurd hph hp

/-- MAIN leaves `P_RNG` only once the cycle is over (44_arbiter_sequencer.md R184). -/
theorem phaseAfter_ne_rng {before : Regs} (hp : before.ph = .rng) {r : Regs} (h : phaseAfter before r ≠ .rng) :
    r.rstate = .idle := by
  by_contra hr
  apply h
  unfold phaseAfter
  cases before.rstate <;> simp [hp, hr]

theorem SeqInv.mainStep_keeps {inp : Inputs} {s t : State} (h : SeqInv s) (hm : mainStep inp s = .next t) : SeqInv t := by
  obtain ⟨-, rfl⟩ := mainStep_eq_next.1 hm
  intro hne
  rw [finishMain_ph] at hne
  rw [finishMain_rstate]
  by_cases hp : s.regs.ph = .rng
  · exact phaseAfter_ne_rng hp hne
  · rw [after_regs, mainOp_rstate hp, h hp]

/-- A line the composed block can take keeps (l): only the sequencer moves the cycle or the phase. -/
theorem SeqInv.runLine_keeps {l : Line} {s t : State} (h : SeqInv s) (hsys : systemLine l = true)
    (hl : runLine l s = .next t) : SeqInv t := by
  rcases runLine_cases hl with ⟨w, i, rfl, hd, hx⟩ | ⟨inp, -, hm⟩ | ⟨p, -, hp⟩ | ⟨n, -, rfl⟩
  · exact h.exec_keeps (by simpa [systemLine, hd] using hsys) hx
  · exact h.mainStep_keeps hm
  · rcases hostEdge_eq_next hp with ⟨i, hi, hx⟩ | rfl
    · exact h.exec_keeps hi hx
    · exact h
  · have hcount : SeqInv (after .tbCount s) := h.exec_keeps (by decide) (exec_of_enabled rfl)
    exact hcount

theorem SeqInv.takeLine_keeps {s : State} (h : SeqInv s) : SeqInv (takeLine s) := by
  simpa [SeqInv] using h

theorem SeqInv.step_keeps {s t : State} (h : SeqInv s) (hsys : systemLine (nextLine s) = true) (hs : step s = .next t) :
    SeqInv t := by
  obtain ⟨-, ⟨hu, -, -, rfl⟩ | ⟨-, hl⟩⟩ := step_cases hs
  · exact h.exec_keeps (i := .tbOvf) (by decide) (exec_of_enabled hu)
  · exact h.takeLine_keeps.runLine_keeps hsys hl

/-! ### The reset state -/

theorem inv_resetWith {c : Config} (hv : c.Valid) : Inv (State.resetWith c) := ⟨hv, fits_reset c, regInv_reset c⟩

theorem seqInv_resetWith (c : Config) : SeqInv (State.resetWith c) := fun _ => rfl

/-- No count has been made and the time base stands at 0 (40_timebase.md R117). -/
theorem countLaw_resetWith (c : Config) : CountLaw (State.resetWith c) := fun _ => rfl

/-- Settles O53: each operation's effect keeps each clause of 10_state.md R38. -/
theorem everyOperationKeepsTheInvariants : Obligations.EveryOperationKeepsTheInvariants :=
  fun _ _ _ h hx => h.exec_keeps hx

/-- Settles O54: a step is the urgent interrupt or a line; each keeps (a) to (k), and (l) where MAIN follows its table. -/
theorem everyStepKeepsTheInvariants : Obligations.EveryStepKeepsTheInvariants :=
  fun _ _ h hs => ⟨h.step_keeps hs, fun hseq hsys => hseq.step_keeps hsys hs⟩

/-- Settles O52: every register at its reset value satisfies each clause, under every configuration. -/
theorem invariantsHoldAtReset : Obligations.InvariantsHoldAtReset :=
  ⟨fun c hv => ⟨inv_resetWith hv, seqInv_resetWith c, countLaw_resetWith c⟩, by decide, rfl⟩

/-! ### The registers held for the output ports (10_state.md R35, 90_conflicts.md C6) -/

/-- Values for the three registers held for the output ports: `DIST`, `DIST_VALID`, `RRES` (10_state.md R34, R35). -/
structure HeldSample where
  dist      : Nat
  distValid : Bool
  rres      : RRes

/-- The registers with those three at given values. -/
def Regs.withHeld (r : Regs) (a : HeldSample) : Regs :=
  { r with dist := a.dist, distValid := a.distValid, rres := a.rres }

/-- The state with those three registers at given values. -/
def State.withHeld (a : HeldSample) (s : State) : State := { s with regs := s.regs.withHeld a }

section
variable (a : HeldSample) (c : Config) (r : Regs)

@[simp] theorem Regs.withHeld_withHeld (b : HeldSample) : (r.withHeld b).withHeld a = r.withHeld a := rfl

/-! The registers that conditions test stay. -/

@[simp] theorem Regs.withHeld_hh : (r.withHeld a).hh = r.hh := rfl
@[simp] theorem Regs.withHeld_mm : (r.withHeld a).mm = r.mm := rfl
@[simp] theorem Regs.withHeld_ss : (r.withHeld a).ss = r.ss := rfl
@[simp] theorem Regs.withHeld_clkmode : (r.withHeld a).clkmode = r.clkmode := rfl
@[simp] theorem Regs.withHeld_idle : (r.withHeld a).idle = r.idle := rfl
@[simp] theorem Regs.withHeld_tMark : (r.withHeld a).tMark = r.tMark := rfl
@[simp] theorem Regs.withHeld_mainmode : (r.withHeld a).mainmode = r.mainmode := rfl

/-! No time reading, no condition and no choice of the sequencer looks at the three. -/

@[simp] theorem nowUs_withHeld : nowUs c (r.withHeld a) = nowUs c r := rfl
@[simp] theorem timerWraps_withHeld : timerWraps c (r.withHeld a) = timerWraps c r := rfl
@[simp] theorem secondDue_withHeld : secondDue c (r.withHeld a) = secondDue c r := rfl
@[simp] theorem fallTimedOut_withHeld : fallTimedOut c (r.withHeld a) = fallTimedOut c r := rfl
@[simp] theorem interruptUrgent_withHeld : interruptUrgent (r.withHeld a) = interruptUrgent r := rfl
@[simp] theorem enabled_withHeld (i : Instr) : enabled (r.withHeld a) i = enabled r i := by cases i <;> rfl
@[simp] theorem outAfter_withHeld (i : Instr) : outAfter c (r.withHeld a) i = outAfter c r i := by cases i <;> rfl
@[simp] theorem lostAfter_withHeld (b : Bool) (i : Instr) : lostAfter c (r.withHeld a) b i = lostAfter c r b i := by
  cases i <;> rfl

/-! The effects that neither read nor write them. -/

theorem countTimer_withHeld : countTimer c (r.withHeld a) = (countTimer c r).withHeld a := by
  unfold countTimer
  rw [timerWraps_withHeld]
  split_ifs <;> rfl

theorem advanceTime_withHeld : advanceTime (r.withHeld a) = (advanceTime r).withHeld a := by
  unfold advanceTime
  rw [Regs.withHeld_ss, Regs.withHeld_mm, Regs.withHeld_hh]
  split_ifs <;> rfl

theorem idleSecond_withHeld : idleSecond c (r.withHeld a) = (idleSecond c r).withHeld a := by
  unfold idleSecond
  rw [Regs.withHeld_idle]
  split_ifs <;> rfl

theorem applySecond_withHeld : applySecond c (r.withHeld a) = (applySecond c r).withHeld a := by
  unfold applySecond
  rw [Regs.withHeld_clkmode]
  cases r.clkmode with
  | normal => exact advanceTime_withHeld a r
  | settingHours => exact idleSecond_withHeld a c r
  | settingMinutes => exact idleSecond_withHeld a c r

theorem remark_withHeld : remark c (r.withHeld a) = (remark c r).withHeld a := by
  unfold remark
  cases c.secRemark <;> rfl

theorem incEdge_withHeld : incEdge (r.withHeld a) = (incEdge r).withHeld a := by
  unfold incEdge
  rw [Regs.withHeld_clkmode]
  cases r.clkmode <;> rfl

theorem decEdge_withHeld : decEdge (r.withHeld a) = (decEdge r).withHeld a := by
  unfold decEdge
  rw [Regs.withHeld_clkmode]
  cases r.clkmode <;> rfl

theorem dispatchEdge_withHeld (e : ButtonId) : dispatchEdge c e (r.withHeld a) = (dispatchEdge c e r).withHeld a := by
  unfold dispatchEdge
  rw [Regs.withHeld_mainmode]
  split_ifs
  · cases e with
    | none => rfl
    | mode => rfl
    | inc => exact incEdge_withHeld a r
    | dec => exact decEdge_withHeld a r
  · rfl

theorem pollTrigger_withHeld : pollTrigger c (r.withHeld a) = (pollTrigger c r).withHeld a := by
  unfold pollTrigger
  rw [nowUs_withHeld, Regs.withHeld_tMark]
  split_ifs <;> rfl

theorem pollRecovery_withHeld : pollRecovery c (r.withHeld a) = (pollRecovery c r).withHeld a := by
  unfold pollRecovery
  rw [nowUs_withHeld, Regs.withHeld_tMark]
  split_ifs <;> rfl

theorem selectMode_withHeld (lvl : Bool) : selectMode c (r.withHeld a) lvl = (selectMode c r lvl).withHeld a := by
  unfold selectMode
  split_ifs <;> rfl

/-! The effects that write them agree once they are made equal. -/

theorem pollRise_withHeld (lvl : Bool) : (pollRise c (r.withHeld a) lvl).withHeld a = (pollRise c r lvl).withHeld a := by
  unfold pollRise
  rw [nowUs_withHeld, Regs.withHeld_tMark]
  split_ifs <;> rfl

theorem pollFall_withHeld (lvl : Bool) : (pollFall c (r.withHeld a) lvl).withHeld a = (pollFall c r lvl).withHeld a := by
  unfold pollFall
  rw [fallTimedOut_withHeld]
  split_ifs <;> rfl

/-- The effect of every operation, but for the three registers, is the same whatever they hold. -/
theorem regsAfter_withHeld (i : Instr) : (regsAfter c (r.withHeld a) i).withHeld a = (regsAfter c r i).withHeld a := by
  cases i with
  | tbCount => simp [regsAfter, countTimer_withHeld]
  | ckSec => simp [regsAfter, applySecond_withHeld]
  | ckInc => simp [regsAfter, incEdge_withHeld]
  | ckDec => simp [regsAfter, decEdge_withHeld]
  | ckSecchk =>
    simp only [regsAfter, secondDue_withHeld, remark_withHeld, applySecond_withHeld]
    cases secondDue c r <;> rfl
  | rgTrigw => simp [regsAfter, pollTrigger_withHeld]
  | rgWaith lvl => exact pollRise_withHeld a c r lvl
  | rgWaitl lvl => exact pollFall_withHeld a c r lvl
  | rgRecov => simp [regsAfter, pollRecovery_withHeld]
  | arSel lvl => simp [regsAfter, selectMode_withHeld]
  | _ => rfl

end

/-- Doing one thing after a step and then another is doing both. -/
theorem andThen_andThen (o : Host.Outcome State Fault Refusal) (f g : State → State) :
    andThen (andThen o f) g = andThen o (g ∘ f) := by
  cases o <;> rfl

section
variable (a : HeldSample)

/-- Two outcomes that agree once the three registers are made equal still agree after a function that does not look at
them. -/
theorem andThen_withHeld {o o' : Host.Outcome State Fault Refusal} {f : State → State}
    (hf : ∀ t, (f (t.withHeld a)).withHeld a = (f t).withHeld a)
    (ho : andThen o' (State.withHeld a) = andThen o (State.withHeld a)) :
    andThen (andThen o' f) (State.withHeld a) = andThen (andThen o f) (State.withHeld a) := by
  have hcomp : State.withHeld a ∘ f = (State.withHeld a ∘ f) ∘ State.withHeld a := (funext hf).symm
  rw [andThen_andThen, andThen_andThen, hcomp, ← andThen_andThen, ho, andThen_andThen]

theorem exec_withHeld (i : Instr) (s : State) :
    andThen (exec i (s.withHeld a)) (State.withHeld a) = andThen (exec i s) (State.withHeld a) := by
  have hafter : (after i (s.withHeld a)).withHeld a = (after i s).withHeld a := by
    simp [after, State.withHeld, regsAfter_withHeld]
  have hen : enabled (s.withHeld a).regs i = enabled s.regs i := enabled_withHeld a s.regs i
  rw [exec_eq, exec_eq, hen]
  cases enabled s.regs i
  · rfl
  · exact congrArg Host.Outcome.next hafter

theorem finishMain_withHeld (before : Regs) (t : State) :
    (finishMain before (t.withHeld a)).withHeld a = (finishMain before t).withHeld a := by
  simp only [finishMain, State.withHeld, dispatchEdge_withHeld]
  rfl

theorem mainStep_withHeld (inp : Inputs) (s : State) :
    andThen (mainStep inp (s.withHeld a)) (State.withHeld a) = andThen (mainStep inp s) (State.withHeld a) :=
  andThen_withHeld a (finishMain_withHeld a s.regs) (exec_withHeld a (mainOp s.regs inp) s)

theorem hostEdge_withHeld (p : Pins) (s : State) :
    andThen (hostEdge p (s.withHeld a)) (State.withHeld a) = andThen (hostEdge p s) (State.withHeld a) := by
  unfold hostEdge
  split_ifs
  · exact exec_withHeld a .sysReset s
  · exact exec_withHeld a .tbIrqoff s
  · exact exec_withHeld a .tbIrqon s
  · rfl

theorem runLine_withHeld (l : Line) (s : State) :
    andThen (runLine l (s.withHeld a)) (State.withHeld a) = andThen (runLine l s) (State.withHeld a) := by
  cases l with
  | op w =>
    cases hd : decode w with
    | ok i => simpa only [runLine, hd] using exec_withHeld a i s
    | error e => simp [runLine, hd, andThen]
  | main inp => exact mainStep_withHeld a inp s
  | pins p => exact hostEdge_withHeld a p s
  | tick more => exact andThen_withHeld a (fun _ => rfl) (exec_withHeld a .tbCount s)

theorem takeLine_withHeld (s : State) : takeLine (s.withHeld a) = (takeLine s).withHeld a := by
  have hscript : (s.withHeld a).script = s.script := rfl
  unfold takeLine
  rw [hscript]
  cases s.script <;> rfl

theorem stepLine_withHeld (s : State) :
    andThen (stepLine (s.withHeld a)) (State.withHeld a) = andThen (stepLine s) (State.withHeld a) := by
  have hurgent : interruptUrgent (s.withHeld a).regs = interruptUrgent s.regs :=
    interruptUrgent_withHeld a s.regs
  have hscript : (s.withHeld a).script = s.script := rfl
  have hline : nextLine (s.withHeld a) = nextLine s := rfl
  unfold stepLine
  rw [hurgent, hline, hscript, takeLine_withHeld]
  split_ifs
  · cases s.script with
    | nil => exact exec_withHeld a .tbOvf s
    | cons l rest => rfl
  · exact runLine_withHeld a (nextLine s) (takeLine s)

/-- A step is the same whatever the three registers hold, but for what they hold after it. -/
theorem step_withHeld (s : State) :
    andThen (step (s.withHeld a)) (State.withHeld a) = andThen (step s) (State.withHeld a) := by
  have hcfg : (s.withHeld a).cfg = s.cfg := rfl
  unfold step
  rw [hcfg]
  split_ifs
  · exact stepLine_withHeld a s
  · rfl

end

/-- Settles O57: making the three registers equal after a step absorbs making them so before it. -/
theorem heldSampleDrivesNothing : Obligations.HeldSampleDrivesNothing := by
  intro s t d v x hstep
  have hnext : andThen (step s) (State.withHeld ⟨d, v, x⟩) = .next (t.withHeld ⟨d, v, x⟩) := by rw [hstep]; rfl
  exact andThen_eq_next.1 ((step_withHeld ⟨d, v, x⟩ s).trans hnext)

/-! ### The strobes (10_state.md R47) -/

/-- The heartbeat pulses in the `CK_SECCHK` that detects a second. -/
theorem outAfter_hbStb (c : Config) (r : Regs) (i : Instr) :
    (outAfter c r i).hbStb = true ↔ i = .ckSecchk ∧ secondDue c r = true := by
  cases i <;> simp [outAfter]

/-- The sample strobe pulses in the `RG_WAITL` that sees the fall in time. -/
theorem outAfter_sampleStb (c : Config) (r : Regs) (i : Instr) :
    (outAfter c r i).sampleStb = true ↔ i = .rgWaitl false ∧ fallTimedOut c r = false := by
  cases i with
  | rgWaitl lvl => cases lvl <;> simp [outAfter, yieldsSample]
  | _ => simp [outAfter]

/-- No operation by itself ends a frame. -/
theorem outAfter_viewStb (c : Config) (r : Regs) (i : Instr) : (outAfter c r i).viewStb = false := by
  cases i <;> rfl

/-- MAIN polls the second cadence in `P_SEC` and nowhere else (44_arbiter_sequencer.md R184). -/
theorem mainOp_eq_ckSecchk {r : Regs} {inp : Inputs} : mainOp r inp = .ckSecchk ↔ r.ph = .sec := by
  unfold mainOp
  cases r.ph with
  | rng => cases r.rstate <;> simp
  | _ => simp

/-- MAIN samples a low echo line for its fall in `P_RNG` with the cycle in `R_WAITL` and nowhere else (R184). -/
theorem mainOp_eq_rgWaitl_low {r : Regs} {inp : Inputs} :
    mainOp r inp = .rgWaitl false ↔ r.ph = .rng ∧ r.rstate = .waitl ∧ inp.echo = false := by
  unfold mainOp
  cases r.ph with
  | rng => cases r.rstate <;> simp
  | _ => simp

/-- A frame does not end where it begins (44_arbiter_sequencer.md R184). -/
theorem phaseAfter_arb_ne_arb {before : Regs} (hp : before.ph = .arb) (r : Regs) : phaseAfter before r ≠ .arb := by
  simp [phaseAfter, hp]

/-- Settles O51: the strobes of an operation, and of MAIN's step through the operation that its table names. -/
theorem strobesPulseOnlyInTheirSteps : Obligations.StrobesPulseOnlyInTheirSteps := by
  refine ⟨fun i s t hx => ?_, fun inp s t hm => ?_⟩
  · obtain ⟨-, rfl⟩ := exec_eq_next.1 hx
    exact ⟨outAfter_hbStb .., outAfter_sampleStb .., outAfter_viewStb ..⟩
  · obtain ⟨-, rfl⟩ := mainStep_eq_next.1 hm
    refine ⟨?_, ?_, ?_⟩
    · exact (outAfter_hbStb ..).trans (and_congr_left' mainOp_eq_ckSecchk)
    · exact ((outAfter_sampleStb ..).trans (and_congr_left' mainOp_eq_rgWaitl_low)).trans (by simp only [and_assoc])
    · have hview : (finishMain s.regs (after (mainOp s.regs inp) s)).out.viewStb = true ↔
          phaseAfter s.regs (after (mainOp s.regs inp) s).regs = .arb := decide_eq_true_iff
      rw [hview, finishMain_ph]
      exact ⟨fun ha => ⟨fun hp => phaseAfter_arb_ne_arb hp _ ha, ha⟩, And.right⟩

/-! ### The lines of an execution -/

/-- Where the interrupt is not urgent, the step is the script's first line on the script that is left (30_encoding.md
R91). -/
theorem step_of_script {s : State} (hv : s.cfg.Valid) (hu : interruptUrgent s.regs = false) {l : Line} {rest : List Line}
    (hs : s.script = l :: rest) : step s = runLine l { s with script := rest } := by
  have hline : nextLine s = l := by unfold nextLine; rw [hs]
  rw [step_of_valid hv, stepLine, hu, hline, takeLine_of_script hs]
  rfl

/-- Where the interrupt is not urgent and there is no script, the step is the environment's choice (20_memory.md R69). -/
theorem step_of_empty {s : State} (hv : s.cfg.Valid) (hu : interruptUrgent s.regs = false) (hs : s.script = []) :
    step s = runLine (eventLine (chooseEvent Config.freeEvent Config.freeGap s.env s.since)) (takeLine s) := by
  have hline : nextLine s = eventLine (chooseEvent Config.freeEvent Config.freeGap s.env s.since) := by
    unfold nextLine; rw [hs]
  rw [step_of_valid hv, stepLine, hu, hline]
  rfl

/-- Each port of HOST acts where those before it are low, and a clock edge with all three low changes no register
(10_state.md R41). -/
theorem runLine_pins (p : Pins) (s : State) :
    (p.rst = true → runLine (.pins p) s = exec .sysReset s) ∧
      (p.rst = false → p.ieClr = true → runLine (.pins p) s = exec .tbIrqoff s) ∧
      (p.rst = false → p.ieClr = false → p.ieSet = true → runLine (.pins p) s = exec .tbIrqon s) ∧
      (p.rst = false → p.ieClr = false → p.ieSet = false → runLine (.pins p) s = .next { s with out := quiet }) := by
  have hrun : runLine (.pins p) s = hostEdge p s := rfl
  rw [hrun, hostEdge]
  refine ⟨fun hr => ?_, fun hr hc => ?_, fun hr hc hi => ?_, fun hr hc hi => ?_⟩
  · rw [if_pos hr]
  · rw [if_neg (by simp [hr]), if_pos hc]
  · rw [if_neg (by simp [hr]), if_neg (by simp [hc]), if_pos hi]
  · rw [if_neg (by simp [hr]), if_neg (by simp [hc]), if_neg (by simp [hi])]
    rfl

/-- One count of a `TB_TICK` on what is left of the script: the count, with `TB_OVF` before the counts that are left where
it left the interrupt urgent (30_encoding.md R92). -/
theorem runLine_tick (more : Nat) (s : State) (rest : List Line) :
    (interruptUrgent (after .tbCount s).regs = true →
        runLine (.tick more) { s with script := rest } =
          .next { after .tbCount s with script := .op 0x0400 :: (tickLines more ++ rest) }) ∧
      (interruptUrgent (after .tbCount s).regs = false →
        runLine (.tick more) { s with script := rest } =
          .next { after .tbCount s with script := tickLines more ++ rest }) := by
  have hrun : runLine (.tick more) { s with script := rest } =
      .next { after .tbCount s with script :=
        (if interruptUrgent (after .tbCount s).regs then [.op (encode .tbOvf)] else []) ++ (tickLines more ++ rest) } := rfl
  have hword : encode .tbOvf = 0x0400 := by decide
  refine ⟨fun hu => ?_, fun hu => ?_⟩ <;> rw [hrun, hu]
  · rw [hword]; rfl
  · rfl

/-- Settles O7: a step is its line, and each kind of line has the effect stated. -/
theorem stepRunsMainPinsAndEnvironment : Obligations.StepRunsMainPinsAndEnvironment := by
  intro s hv hu
  refine ⟨fun inp rest hs => step_of_script hv hu hs, fun p rest hs => ?_, fun more rest hs => ?_, step_of_empty hv hu⟩
  · rw [step_of_script hv hu hs]
    exact runLine_pins p _
  · rw [step_of_script hv hu hs]
    exact ⟨after .tbCount s, exec_of_enabled rfl, runLine_tick more s rest⟩

end Sys2Proof.Machine

/-! PROOFS of the statements about who writes what and about the order of the agents (20_memory.md): the registers each
agent leaves alone, `MONO` while the interrupt is disabled, and the timer that is never starved. -/

namespace Sys2Proof.Machine

/-! ### Who writes what (20_memory.md R68, 60_exceptions.md R209) -/

/-- TMR performs one operation (30_encoding.md R84). -/
theorem Instr.agents_eq_tmr {i : Instr} : i.agents = [.tmr] ↔ i = .tbCount := by cases i <;> simp [Instr.agents]

/-- IRQ performs one operation (R84). -/
theorem Instr.agents_eq_irq {i : Instr} : i.agents = [.irq] ↔ i = .tbOvf := by cases i <;> simp [Instr.agents]

/-- HOST reads the time, sets and clears `IE`, and resets (R84). -/
theorem Instr.host_mem_agents {i : Instr} :
    Agent.host ∈ i.agents ↔ i = .tbRdus ∨ i = .tbRdms ∨ i = .tbIrqoff ∨ i = .tbIrqon ∨ i = .sysReset := by
  cases i <;> simp [Instr.agents]

section
variable (c : Config) (r : Regs) {i : Instr}

/-- MAIN's operations never write the time base. -/
theorem regsAfter_sameTimeBase (hi : i.agents = [.main]) : SameTimeBase r (regsAfter c r i) := by
  cases i with
  | tbCount | tbOvf | tbRdus | tbRdms | tbIrqoff | tbIrqon | sysReset => simp [Instr.agents] at hi
  | ckSecchk => cases hd : secondDue c r <;> constructor <;> simp [regsAfter, hd]
  | _ => constructor <;> simp [regsAfter]

/-- HOST writes `IE` only, unless it resets. -/
theorem regsAfter_of_host (hi : Agent.host ∈ i.agents) (hreset : i ≠ .sysReset) :
    regsAfter c r i = { r with ie := (regsAfter c r i).ie } := by
  rcases Instr.host_mem_agents.1 hi with rfl | rfl | rfl | rfl | rfl
  case inr.inr.inr.inr => exact absurd rfl hreset
  all_goals rfl

/-- No operation but a reset writes `PH`, which the sequencer alone moves (44_arbiter_sequencer.md R193). -/
theorem regsAfter_ph (hreset : i ≠ .sysReset) : (regsAfter c r i).ph = r.ph := by
  cases i with
  | sysReset => exact absurd rfl hreset
  | ckSecchk => cases hd : secondDue c r <;> simp [regsAfter, hd]
  | _ => simp [regsAfter]

end

/-- What the sequencer adds to an operation, the dispatch and the phase, leaves the time base alone. -/
theorem finishMain_sameTimeBase (before : Regs) (t : State) : SameTimeBase t.regs (finishMain before t).regs :=
  ⟨finishMain_tcnt .., finishMain_mono .., finishMain_ovfPend .., finishMain_ie ..⟩

theorem SameTimeBase.trans {r r' r'' : Regs} (h : SameTimeBase r r') (h' : SameTimeBase r' r'') : SameTimeBase r r'' :=
  ⟨h'.tcnt.trans h.tcnt, h'.mono.trans h.mono, h'.ovfPend.trans h.ovfPend, h'.ie.trans h.ie⟩

/-- A step of MAIN, its dispatch included, never writes the time base. -/
theorem mainStep_sameTimeBase {inp : Inputs} {s t : State} (h : mainStep inp s = .next t) : SameTimeBase s.regs t.regs := by
  obtain ⟨-, rfl⟩ := mainStep_eq_next.1 h
  exact (regsAfter_sameTimeBase s.cfg s.regs (mainOp_agents s.regs inp)).trans 
    (finishMain_sameTimeBase s.regs (after (mainOp s.regs inp) s))

/-- Settles O50: the frame of each agent's operations, and of MAIN's step through the operation it performs. -/
theorem eachAgentWritesOnlyItsRegisters : Obligations.EachAgentWritesOnlyItsRegisters := by
  refine ⟨fun i s t hx => ?_, fun inp s t => mainStep_sameTimeBase⟩
  obtain ⟨-, rfl⟩ := exec_eq_next.1 hx
  refine ⟨regsAfter_sameTimeBase s.cfg s.regs, fun htmr => ?_, fun hirq => ?_, regsAfter_of_host s.cfg s.regs,
    regsAfter_ph s.cfg s.regs⟩
  · obtain rfl := Instr.agents_eq_tmr.1 htmr
    exact countTimer_frame s.cfg s.regs
  · obtain rfl := Instr.agents_eq_irq.1 hirq
    rfl

/-! ### `MONO` while the interrupt is disabled (20_memory.md R70) -/

/-- Only the handler adds to `MONO`, and it is not enabled while `IE` = 0. -/
theorem exec_mono_of_ie_clear {i : Instr} {s t : State} (hie : s.regs.ie = false) (hx : exec i s = .next t) :
    t.regs.mono = s.regs.mono ∨ t.regs = Regs.reset := by
  obtain ⟨hen, rfl⟩ := exec_eq_next.1 hx
  cases i with
  | tbCount => exact .inl (countTimer_mono s.cfg s.regs)
  | tbOvf => simp [enabled, hie] at hen
  | tbRdus | tbRdms | tbIrqoff | tbIrqon => exact .inl rfl
  | sysReset => exact .inr rfl
  | _ => exact .inl (regsAfter_sameTimeBase s.cfg s.regs rfl).mono

theorem runLine_mono_of_ie_clear {l : Line} {s t : State} (hie : s.regs.ie = false) (hl : runLine l s = .next t) :
    t.regs.mono = s.regs.mono ∨ t.regs = Regs.reset := by
  rcases runLine_cases hl with ⟨w, i, -, -, hx⟩ | ⟨inp, -, hm⟩ | ⟨p, -, hp⟩ | ⟨n, -, rfl⟩
  · exact exec_mono_of_ie_clear hie hx
  · exact .inl (mainStep_sameTimeBase hm).mono
  · rcases hostEdge_eq_next hp with ⟨i, -, hx⟩ | rfl
    · exact exec_mono_of_ie_clear hie hx
    · exact .inl rfl
  · exact .inl (countTimer_mono s.cfg s.regs)

/-- Settles O22: with `IE` = 0 the interrupt is not urgent, so a step is its line, and no line but a reset writes `MONO`. -/
theorem monoStandsStillWhileInterruptsAreOff : Obligations.MonoStandsStillWhileInterruptsAreOff := by
  intro s t hie hs
  obtain ⟨-, ⟨hu, -⟩ | ⟨-, hl⟩⟩ := step_cases hs
  · simp [interruptUrgent, enabled, hie] at hu
  · simpa using runLine_mono_of_ie_clear (by simpa using hie) hl

/-! ### The fair environment (20_memory.md R69, R72) -/

/-- How many free choices are left before a count is due, at the `n`-th choice. -/
def freeLeft (gap : Nat → Nat) (n since : Nat) : Nat := gap (n - since) - since

/-- Where no count is due the choice is free, and one fewer is left after it. -/
theorem chooseEvent_cases_freeLeft (free : Nat → EnvEvent) (gap : Nat → Nat) (n since : Nat) :
    chooseEvent free gap n since = .count ∨
      freeLeft gap (n + 1) (nextSince gap n since) < freeLeft gap n since := by
  rcases chooseEvent_cases free gap n since with ⟨-, hcount, -⟩ | ⟨hlt, -, hnext⟩
  · exact .inl hcount
  · right
    rw [hnext, freeLeft, freeLeft, Nat.add_sub_add_right]
    omega

/-- Whatever the free choices and the gaps, the environment comes to a count. -/
theorem envStream_fair (free : Nat → EnvEvent) (gap : Nat → Nat) : Fair (envStream free gap) := by
  intro n
  induction hleft : freeLeft gap n (sinceOf gap n) using Nat.strong_induction_on generalizing n with
  | _ d ih =>
    rcases chooseEvent_cases_freeLeft free gap n (sinceOf gap n) with hcount | hlt
    · exact ⟨n, le_rfl, hcount⟩
    · obtain ⟨m, hm, hcount⟩ := ih _ (hleft ▸ hlt) (n + 1) rfl
      exact ⟨m, by omega, hcount⟩

/-- The choices since the last forced count lie within the choices made, and do not outrun the gap. -/
theorem sinceOf_le (gap : Nat → Nat) (n : Nat) : sinceOf gap n ≤ n ∧ sinceOf gap n ≤ gap (n - sinceOf gap n) := by
  induction n with
  | zero => exact ⟨le_rfl, Nat.zero_le _⟩
  | succ n ih =>
    obtain ⟨hle, -⟩ := ih
    rcases chooseEvent_cases (fun _ => .count) gap n (sinceOf gap n) with ⟨-, -, hnext⟩ | ⟨hlt, -, hnext⟩ <;>
      rw [sinceOf, hnext]
    · exact ⟨Nat.zero_le _, Nat.zero_le _⟩
    · rw [Nat.add_sub_add_right]
      exact ⟨Nat.succ_le_succ hle, hlt⟩

/-- A sequence is its own environment's, for gaps that end where it counts: the forced counts are counts it makes. -/
theorem envStream_of_gap {e : Nat → EnvEvent} {gap : Nat → Nat} (hgap : ∀ n, e (n + gap n) = .count) (n : Nat) :
    envStream e gap n = e n := by
  obtain ⟨hle, hgapLe⟩ := sinceOf_le gap n
  rcases chooseEvent_cases e gap n (sinceOf gap n) with ⟨hdue, hcount, -⟩ | ⟨-, hfree, -⟩
  · have hn : n - sinceOf gap n + gap (n - sinceOf gap n) = n := by omega
    calc envStream e gap n = .count := hcount
      _ = e (n - sinceOf gap n + gap (n - sinceOf gap n)) := (hgap _).symm
      _ = e n := by rw [hn]
  · exact hfree

/-- From every choice on, a fair sequence makes a count some number of choices later. -/
theorem Fair.exists_gap {e : Nat → EnvEvent} (h : Fair e) (n : Nat) : ∃ d, e (n + d) = .count := by
  obtain ⟨m, hm, hcount⟩ := h n
  exact ⟨m - n, by rwa [Nat.add_sub_cancel' hm]⟩

/-- Settles O59: a fair sequence is made of itself and the distances to its counts; and the gaps force counts. -/
theorem environmentIsExactlyTheFairOne : Obligations.EnvironmentIsExactlyTheFairOne := by
  intro e
  constructor
  · intro hfair
    choose gap hgap using hfair.exists_gap
    exact ⟨e, gap, envStream_of_gap hgap⟩
  · rintro ⟨free, gap, heq⟩
    exact funext heq ▸ envStream_fair free gap

/-! ### The timer is never starved (20_memory.md R72) -/

/-- A choice of the environment is a line the composed block can take (44_arbiter_sequencer.md R193). -/
theorem systemLine_eventLine (e : EnvEvent) : systemLine (eventLine e) = true := by cases e <;> rfl

theorem runLine_eventLine_count (s : State) : runLine (eventLine .count) s = .next (after .tbCount s) := rfl

/-- Every choice of the environment has its step where (l) of 10_state.md R38 holds. -/
theorem exists_runLine_eventLine {s : State} (h : SeqInv s) (e : EnvEvent) : ∃ t, runLine (eventLine e) s = .next t := by
  cases e with
  | main inp => exact ⟨_, mainStep_eq_next.2 ⟨mainOp_enabled h inp, rfl⟩⟩
  | pins p =>
    rcases hostEdge_cases p s with ⟨-, heq⟩ | ⟨-, -, heq⟩ | ⟨-, -, -, heq⟩ | ⟨-, -, -, heq⟩ <;> exact ⟨_, heq⟩
  | count | readUs | readMs => exact ⟨_, rfl⟩

/-- A choice of the environment writes nothing that stands outside the block. -/
theorem runLine_eventLine_sameOutside {s t : State} {e : EnvEvent} (h : runLine (eventLine e) s = .next t) :
    SameOutside s t := by
  rcases runLine_cases h with ⟨w, i, -, -, hx⟩ | ⟨inp, -, hm⟩ | ⟨p, -, hp⟩ | ⟨n, htick, -⟩
  · exact exec_sameOutside hx
  · obtain ⟨-, rfl⟩ := mainStep_eq_next.1 hm
    exact ⟨rfl, rfl, rfl, rfl⟩
  · rcases hostEdge_eq_next hp with ⟨i, -, hx⟩ | rfl
    · exact exec_sameOutside hx
    · exact ⟨rfl, rfl, rfl, rfl⟩
  · cases e <;> cases htick

section
variable {s t : State}

theorem Running.exec_tbOvf_keeps (h : Running s) (hu : interruptUrgent s.regs = true) : Running (after .tbOvf s) :=
  have hx : exec .tbOvf s = .next (after .tbOvf s) := exec_of_enabled hu
  ⟨h.inv.exec_keeps hx, h.seq.exec_keeps (by decide) hx, h.script⟩

theorem Running.takeLine_keeps (h : Running s) : Running (takeLine s) :=
  ⟨h.inv.takeLine_keeps, h.seq.takeLine_keeps, by rw [takeLine_of_empty h.script]; exact h.script⟩

theorem Running.runLine_eventLine_keeps {e : EnvEvent} (h : Running s) (hl : runLine (eventLine e) s = .next t) :
    Running t :=
  ⟨h.inv.runLine_keeps hl, h.seq.runLine_keeps (systemLine_eventLine e) hl,
    (runLine_eventLine_sameOutside hl).script.trans h.script⟩

/-- The environment's choice in a state (log entry 6). -/
def envChoice (s : State) : EnvEvent := chooseEvent Config.freeEvent Config.freeGap s.env s.since

/-- In a safe state a step is the urgent interrupt, or the environment's choice (60_exceptions.md R205, 20_memory.md
R69). -/
theorem Running.step_cases (h : Running s) :
    (interruptUrgent s.regs = true ∧ step s = .next (after .tbOvf s)) ∨
      step s = runLine (eventLine (envChoice s)) (takeLine s) := by
  have hline : nextLine s = eventLine (envChoice s) := by unfold nextLine; rw [h.script]; rfl
  rw [step_of_valid h.inv.valid, stepLine, h.script, hline]
  split
  case isTrue hfirst =>
    have hu : interruptUrgent s.regs = true := (Bool.and_eq_true_iff.1 hfirst).1
    exact .inl ⟨hu, exec_of_enabled hu⟩
  case isFalse => exact .inr rfl

/-- A bound on the steps before the timer counts: each free choice that is left, and a handler before each of them and
before the count. -/
def stepsToCount (s : State) : Nat :=
  2 * freeLeft Config.freeGap s.env s.since + (interruptUrgent s.regs).toNat

/-- Serving the interrupt makes it no longer urgent, and the environment's choice waits. -/
theorem stepsToCount_after_tbOvf (hu : interruptUrgent s.regs = true) : stepsToCount (after .tbOvf s) < stepsToCount s := by
  have hserved : interruptUrgent (after .tbOvf s).regs = false := rfl
  rw [stepsToCount, stepsToCount, hu, hserved]
  exact Nat.lt_succ_self _

/-- A choice other than the count uses up a free choice. -/
theorem stepsToCount_of_choice (hs : s.script = []) (hne : envChoice s ≠ .count) (ht : SameOutside (takeLine s) t) :
    stepsToCount t < stepsToCount s := by
  have henv : t.env = s.env + 1 := by rw [ht.env, takeLine_of_empty hs]
  have hsince : t.since = nextSince Config.freeGap s.env s.since := by rw [ht.since, takeLine_of_empty hs]
  have hleft := (chooseEvent_cases_freeLeft Config.freeEvent Config.freeGap s.env s.since).resolve_left hne
  have hbit := Bool.toNat_le (interruptUrgent t.regs)
  rw [stepsToCount, stepsToCount, henv, hsince]
  omega

/-- A safe state has a next state, safe again, and the step to it is a count or brings the count nearer. -/
theorem Running.exists_step (h : Running s) :
    ∃ t, step s = .next t ∧ Running t ∧ (t.counts = s.counts + 1 ∨ stepsToCount t < stepsToCount s) := by
  rcases h.step_cases with ⟨hu, hstep⟩ | hstep
  · exact ⟨_, hstep, h.exec_tbOvf_keeps hu, .inr (stepsToCount_after_tbOvf hu)⟩
  · obtain ⟨t, ht⟩ := exists_runLine_eventLine h.takeLine_keeps.seq (envChoice s)
    refine ⟨t, hstep.trans ht, h.takeLine_keeps.runLine_eventLine_keeps ht, ?_⟩
    by_cases hcount : envChoice s = .count
    · rw [hcount, runLine_eventLine_count] at ht
      cases ht
      exact .inl (congrArg (· + 1) (takeLine_counts s))
    · exact .inr (stepsToCount_of_choice h.script hcount (runLine_eventLine_sameOutside ht))

/-- A run takes its first step and goes on from there. -/
theorem core_run_succ (hstep : step s = .next t) (n : Nat) :
    Host.Core.run Sys2Proof.core (n + 1) s = Host.Core.run Sys2Proof.core n t := by
  have hcore : Sys2Proof.core.step s = .next t := hstep
  simp only [Host.Core.run.eq_def Sys2Proof.core (n + 1) s, hcore]

/-- A run that comes to a count after a step comes to it from before the step. -/
theorem CountsAgain.of_step (hstep : step s = .next t) (h : CountsAgain t) : CountsAgain s := by
  obtain ⟨n, u, v, hrun, hcount⟩ := h
  exact ⟨n + 1, u, v, (core_run_succ hstep n).trans hrun, hcount⟩

end

/-- Settles O58, by induction on the bound on the steps before the count. -/
theorem timerIsNeverStarved : Obligations.TimerIsNeverStarved := by
  intro s h
  induction hd : stepsToCount s using Nat.strong_induction_on generalizing s with
  | _ d ih =>
    obtain ⟨t, hstep, ht, hcount | hlt⟩ := h.exists_step
    · exact ⟨0, s, t, rfl, hstep, hcount, ht⟩
    · exact (ih _ (hd ▸ hlt) t ht rfl).of_step hstep

end Sys2Proof.Machine

/-! PROOFS of the statements about operation words and scripts (30_encoding.md): the decoder and the encoder undo each
other, the table selects the words the decoder reads, a script is run line by line to its end, and the bands of the readings. -/

namespace Sys2Proof

/-! ### The decoder and the encoder (30_encoding.md R80 to R84) -/

/-- Format N reads one field only, the zero one (R81). -/
theorem formatN_eq_ok {a : BitVec 10} {i j : Instr} : formatN a i = .ok j ↔ a = 0 ∧ i = j := by
  unfold formatN
  split <;> simp_all

/-- Format L reads the field of each level and no other (R81). -/
theorem formatL_eq_ok {a : BitVec 10} {f : Bool → Instr} {j : Instr} :
    formatL a f = .ok j ↔ ∃ lvl, a = levelArg lvl ∧ f lvl = j := by
  unfold formatL
  split
  case isTrue h =>
    constructor
    · intro hj
      exact ⟨a.getLsbD 0, (levelArg_of_high h).symm, Except.ok.inj hj⟩
    · rintro ⟨lvl, rfl, rfl⟩
      rw [levelArg_level]
  case isFalse h =>
    refine ⟨nofun, ?_⟩
    rintro ⟨lvl, rfl, -⟩
    exact absurd (levelArg_high lvl) h

/-- Format A reads every field (R81). -/
theorem formatA_eq_ok {a : BitVec 10} {f : Nat → Instr} {j : Instr} : formatA a f = .ok j ↔ f a.toNat = j := by
  rw [formatA, Except.ok.injEq]

/-- A word is put together again from its family, its `sub` and its operand field. -/
theorem packWord_of_fields {w : Word} {f s : BitVec 3} {a : BitVec 10} (hf : (famField w).toNat = f.toNat)
    (hs : (subField w).toNat = s.toNat) (ha : argField w = a) : packWord f s a = w := by
  rw [← BitVec.eq_of_toNat_eq hf, ← BitVec.eq_of_toNat_eq hs, ← ha, packWord_fields]

/-- Reading back what the encoder wrote, format by format: a reading, a level, or no operand. -/
theorem decode_encode {i : Instr} (h : i.wellFormed = true) : decode (encode i) = .ok i := by
  cases i with
  | btSample raw =>
    have hraw : (BitVec.ofNat 10 raw).toNat = raw := Nat.mod_eq_of_lt (of_decide_eq_true h)
    simp [encode, decode, formatA, hraw]
  | rgWaith lvl | rgWaitl lvl | arSel lvl => cases lvl <;> rfl
  | _ => rfl

/-- A word that is read is the word of what is read. The cases are the rows of the decoder: `BT_SAMPLE` (7) has format A,
`RG_WAITH`, `RG_WAITL` and `AR_SEL` (15, 16, 18) have format L, the last is the error, and the others have format N. -/
theorem encode_of_decode {w : Word} {i : Instr} (h : decode w = .ok i) : encode i = w ∧ i.wellFormed = true := by
  unfold decode at h
  split at h
  case h_7 hf hs =>
    obtain rfl := formatA_eq_ok.1 h
    exact ⟨packWord_of_fields hf hs (by simp), decide_eq_true (argField w).isLt⟩
  case h_15 hf hs | h_16 hf hs | h_18 hf hs =>
    obtain ⟨lvl, ha, rfl⟩ := formatL_eq_ok.1 h
    exact ⟨packWord_of_fields hf hs ha, rfl⟩
  case h_20 => cases h
  all_goals
    obtain ⟨ha, rfl⟩ := formatN_eq_ok.1 h
    exact ⟨packWord_of_fields ‹_› ‹_› ha, rfl⟩

/-- The decoder and the encoder undo each other on the well-formed operations (R80 to R84). -/
theorem decode_eq_ok_iff {w : Word} {i : Instr} : decode w = .ok i ↔ encode i = w ∧ i.wellFormed = true := by
  refine ⟨encode_of_decode, ?_⟩
  rintro ⟨rfl, h⟩
  exact decode_encode h

/-- Settles O1: what the encoder wrote is read back. -/
theorem everyOperationDecodesFromItsWord : Obligations.EveryOperationDecodesFromItsWord := fun _ => decode_encode

/-- Settles O2: what is read is what the encoder writes. -/
theorem everyDecodedWordIsItsOperationsWord : Obligations.EveryDecodedWordIsItsOperationsWord := fun _ _ => encode_of_decode

/-! ### The rows of the table (30_encoding.md R84) -/

/-- The mnemonic of the operation a word is read as. -/
def mnemonicOf (w : Word) : Option String := (decode w).toOption.map Instr.mnemonic

theorem mnemonicOf_eq_some {w : Word} {m : String} :
    mnemonicOf w = some m ↔ ∃ i, decode w = .ok i ∧ i.mnemonic = m := by
  unfold mnemonicOf
  cases decode w <;> simp [Except.toOption]

theorem selects_iff {row : OpRow} {w : Word} : row.selects w = true ↔ w &&& row.mask = row.pat := decide_eq_true_iff

/-- A row's operand is none, a level, or a reading: its mask leaves no bit free, bit 0, or, in the row of `BT_SAMPLE`
alone, the ten bits of `arg` (R81). -/
theorem mask_cases : ∀ row ∈ opcodeTable,
    row.mask = 0xFFFF ∨ row.mask = 0xFFFE ∨ row = ⟨"BT_SAMPLE", 0x2000, 0xFC00⟩ := by decide

/-- The word of a row with no free bit set is read as the row's operation. -/
theorem mnemonicOf_pat : ∀ row ∈ opcodeTable, mnemonicOf row.pat = some row.mnemonic := by decide

/-- The other word of a row with a level operand is read as the row's operation too. -/
theorem mnemonicOf_pat_high : ∀ row ∈ opcodeTable, row.mask = 0xFFFE → mnemonicOf (row.pat ||| 1) = some row.mnemonic := by
  decide

/-- A mask that leaves bit 0 free leaves two words to a row (R81). -/
theorem eq_or_eq_of_and_fffe {w p : Word} (h : w &&& 0xFFFE = p) : w = p ∨ w = p ||| 1 := by
  have hsplit : w = p ||| (w &&& 1) := by
    rw [← h, ← BitVec.and_or_distrib_left]
    exact (BitVec.and_allOnes (x := w)).symm
  have hlow : w &&& 1 = (BitVec.ofBool (w.getLsbD 0)).setWidth 16 := BitVec.and_one_eq_setWidth_ofBool_getLsbD
  rw [hlow] at hsplit
  cases hbit : w.getLsbD 0 <;> rw [hbit] at hsplit
  · exact .inl (hsplit.trans (BitVec.or_zero ..))
  · exact .inr hsplit

/-- A word that the row of `BT_SAMPLE` selects carries the reading in `arg` (R82). -/
theorem decode_of_and_fc00 {w : Word} (h : w &&& 0xFC00 = 0x2000) : decode w = .ok (.btSample (argField w).toNat) := by
  have hop : packWord (famField w) (subField w) 0 = packWord 1 0 0 := by
    rw [← Laws.packWord_and_mask _ _ (argField w), packWord_fields, h]
    decide
  have hfam : famField w = 1 := by simpa using congrArg famField hop
  have hsub : subField w = 0 := by simpa using congrArg subField hop
  simp [decode, hfam, hsub, formatA]

/-- A word that selects a row is read as the row's operation. -/
theorem mnemonicOf_of_selects {row : OpRow} (hrow : row ∈ opcodeTable) {w : Word} (h : row.selects w = true) :
    mnemonicOf w = some row.mnemonic := by
  rw [selects_iff] at h
  rcases mask_cases row hrow with hmask | hmask | rfl
  · have hw : w = row.pat := by rw [← h, hmask]; exact (BitVec.and_allOnes (x := w)).symm
    rw [hw, mnemonicOf_pat row hrow]
  · rw [hmask] at h
    rcases eq_or_eq_of_and_fffe h with rfl | rfl
    · exact mnemonicOf_pat row hrow
    · exact mnemonicOf_pat_high row hrow hmask
  · exact mnemonicOf_eq_some.2 ⟨_, decode_of_and_fc00 h, rfl⟩

open Laws.EncodesItsRow in
/-- The word of every well-formed operation selects the row of its mnemonic. -/
theorem encode_selects : (i : Instr) → Laws.EncodesItsRow.Statement i
  | .tbCount => tbCount
  | .tbOvf => tbOvf
  | .tbRdus => tbRdus
  | .tbRdms => tbRdms
  | .tbIrqoff => tbIrqoff
  | .tbIrqon => tbIrqon
  | .btSample raw => btSample raw
  | .ckSec => ckSec
  | .ckMode => ckMode
  | .ckInc => ckInc
  | .ckDec => ckDec
  | .ckSecchk => ckSecchk
  | .rgTrig => rgTrig
  | .rgTrigw => rgTrigw
  | .rgWaith lvl => rgWaith lvl
  | .rgWaitl lvl => rgWaitl lvl
  | .rgRecov => rgRecov
  | .arSel lvl => arSel lvl
  | .sysReset => sysReset

/-- A word that is read selects the row of the operation's mnemonic. -/
theorem exists_selects_of_decode {w : Word} {i : Instr} (h : decode w = .ok i) :
    ∃ row ∈ opcodeTable, row.mnemonic = i.mnemonic ∧ row.selects w = true := by
  obtain ⟨rfl, hwf⟩ := decode_eq_ok_iff.1 h
  exact encode_selects i hwf

/-- No mnemonic stands in two rows. -/
theorem mnemonic_injective_on_opcodeTable {row row' : OpRow} (h : row ∈ opcodeTable) (h' : row' ∈ opcodeTable)
    (heq : row.mnemonic = row'.mnemonic) : row = row' :=
  List.inj_on_of_nodup_map (f := OpRow.mnemonic) (by decide) h h' heq

/-- Settles O3: every word that a row selects is read as the row's operation; and a word read as that operation selects
a row of its mnemonic, of which there is one. -/
theorem wordSelectsTheTableRow : Obligations.WordSelectsTheTableRow := by
  intro w row hrow
  constructor
  · intro h
    exact mnemonicOf_eq_some.1 (mnemonicOf_of_selects hrow h)
  · rintro ⟨i, hi, hm⟩
    obtain ⟨row', hrow', hm', h⟩ := exists_selects_of_decode hi
    rwa [mnemonic_injective_on_opcodeTable hrow hrow' (hm.symm.trans hm'.symm)]

/-! ### Words that select no operation (30_encoding.md R85) -/

/-- A word is an error exactly where it is read as no operation. -/
theorem decode_error_iff {w : Word} : (∃ e, decode w = .error e) ↔ ∀ i, decode w ≠ .ok i := by
  cases decode w <;> simp

/-- A word is an error exactly where it selects no row. -/
theorem decode_error_iff_unlisted {w : Word} :
    (∃ e, decode w = .error e) ↔ ∀ row ∈ opcodeTable, row.selects w = false := by
  rw [decode_error_iff]
  constructor
  · intro h row hrow
    by_contra hs
    obtain ⟨i, hi, -⟩ := (wordSelectsTheTableRow w row hrow).1 (Bool.eq_true_of_not_eq_false hs)
    exact h i hi
  · intro h i hi
    obtain ⟨row, hrow, -, hs⟩ := exists_selects_of_decode hi
    exact Bool.false_ne_true ((h row hrow).symm.trans hs)

/-- A word that the encoder never writes is an error. -/
theorem decode_error_of_encode_ne {w : Word} (h : ∀ i, encode i ≠ w) : ∃ e, decode w = .error e :=
  decode_error_iff.2 fun i hi => h i (decode_eq_ok_iff.1 hi).1

@[simp] theorem opField_packWord (f s : BitVec 3) (a : BitVec 10) : opField (packWord f s a) = f ++ s :=
  BitVec.extractLsb'_append_eq_left

/-- Families 5 and 6 hold no operation (R83). -/
theorem famField_encode_ne (i : Instr) : famField (encode i) ≠ 5 ∧ famField (encode i) ≠ 6 := by
  cases i <;> simp [encode]

/-- Family 7 holds the reset only (R83). -/
theorem subField_encode_of_fam7 {i : Instr} (h : famField (encode i) = 7) : subField (encode i) = 7 := by
  cases i with
  | sysReset => rfl
  | _ => simp [encode] at h

/-- Outside family 1 an operand is a level or none (R81, R84). -/
theorem argField_encode_high {i : Instr} (h : famField (encode i) ≠ 1) : (argField (encode i)).extractLsb' 1 9 = 0 := by
  cases i with
  | btSample raw => simp [encode] at h
  | rgWaith lvl | rgWaitl lvl | arSel lvl => rw [encode, argField_packWord, levelArg_high]
  | _ => rfl

/-- An operand stands in family 1 and in the three rows of format L (R84). -/
theorem argField_encode_zero {i : Instr} (h : famField (encode i) ≠ 1) (hh : opField (encode i) ≠ 26)
    (hl : opField (encode i) ≠ 27) (ha : opField (encode i) ≠ 32) : argField (encode i) = 0 := by
  cases i with
  | btSample raw => simp [encode] at h
  | rgWaith lvl => simp [encode] at hh
  | rgWaitl lvl => simp [encode] at hl
  | arSel lvl => simp [encode] at ha
  | _ => rfl

/-- A line whose word selects no operation is refused. -/
theorem Machine.runLine_of_unlisted {w : Word} (h : ∀ row ∈ opcodeTable, row.selects w = false) (s : Machine.State) :
    ∃ e, Machine.runLine (.op w) s = .refused (.invalidWord w e) := by
  obtain ⟨e, he⟩ := decode_error_iff_unlisted.2 h
  exact ⟨e, by simp only [Machine.runLine, he]⟩

/-- Settles O4: the error is where no row is selected, and the named cases hold no operation's word. -/
theorem unlistedWordIsRefused : Obligations.UnlistedWordIsRefused := by
  refine ⟨fun w => decode_error_iff_unlisted, fun w hfam => ?_, fun w hfam hsub => ?_, fun w hfam harg => ?_,
    fun w hfam hh hl ha harg => ?_, fun s w rest hv hu hs hw => ?_⟩
  · refine decode_error_of_encode_ne ?_
    rintro i rfl
    exact hfam.elim (famField_encode_ne i).1 (famField_encode_ne i).2
  · refine decode_error_of_encode_ne ?_
    rintro i rfl
    exact hsub (subField_encode_of_fam7 hfam)
  · refine decode_error_of_encode_ne ?_
    rintro i rfl
    exact harg (argField_encode_high hfam)
  · refine decode_error_of_encode_ne ?_
    rintro i rfl
    exact harg (argField_encode_zero hfam hh hl ha)
  · rw [Machine.step_of_script hv hu hs]
    exact Machine.runLine_of_unlisted hw _

end Sys2Proof

namespace Sys2Proof.Machine

/-! ### A step at an operation word (30_encoding.md R91, 60_exceptions.md R205) -/

/-- `TB_OVF` and a reset have their step whether or not the interrupt is urgent. -/
theorem step_of_script_goesFirst {s : State} (hv : s.cfg.Valid) {l : Line} {rest : List Line} (hs : s.script = l :: rest)
    (hl : goesFirst l = true) : step s = runLine l { s with script := rest } := by
  have hline : nextLine s = l := by unfold nextLine; rw [hs]
  rw [step_of_valid hv, stepLine, hline, hl, takeLine_of_script hs, Bool.not_true, Bool.and_false]
  rfl

theorem runLine_of_decode {w : Word} {i : Instr} (h : decode w = .ok i) (s : State) : runLine (.op w) s = exec i s := by
  simp only [runLine, h]

@[simp] theorem runLine_opLine {i : Instr} (hi : i.wellFormed = true) (s : State) : runLine (opLine i) s = exec i s :=
  runLine_of_decode (decode_encode hi) s

theorem goesFirst_of_decode {w : Word} {i : Instr} (h : decode w = .ok i) :
    goesFirst (.op w) = true ↔ i = .tbOvf ∨ i = .sysReset := by
  cases i <;> simp [goesFirst, h]

/-- Settles O6: the line is run where no interrupt is urgent, or where the word is one of the two that go first. -/
theorem stepRunsTheDecodedOperation : Obligations.StepRunsTheDecodedOperation := by
  intro s w i rest hv hs hd hfirst
  have hstep : step s = runLine (.op w) { s with script := rest } := by
    rcases hfirst with hu | hgoes
    · exact step_of_script hv hu hs
    · exact step_of_script_goesFirst hv hs ((goesFirst_of_decode hd).2 hgoes)
  rw [hstep, runLine_of_decode hd]

/-- A `TB_OVF` in a script is performed, or refused by its own name, whatever is pending. -/
theorem step_opLine_tbOvf {s : State} (hv : s.cfg.Valid) (rest : List Line) :
    step { s with script := opLine .tbOvf :: rest } = exec .tbOvf { s with script := rest } :=
  stepRunsTheDecodedOperation { s with script := opLine .tbOvf :: rest } _ _ rest hv rfl (decode_encode rfl) (.inr (.inl rfl))

/-! ### The guarded accessor (30_encoding.md R92) -/

/-- A run at the line of an enabled operation performs it, where no urgent interrupt stands before it. -/
theorem core_run_load_opLine {s : State} {i : Instr} (hv : s.cfg.Valid) (hu : interruptUrgent s.regs = false)
    (hi : i.wellFormed = true) (hen : enabled s.regs i = true) (ls : List Line) (n : Nat) :
    Host.Core.run Sys2Proof.core (n + 1) (s.load (opLine i :: ls)) = Host.Core.run Sys2Proof.core n ((after i s).load ls) := by
  have hstep : step (s.load (opLine i :: ls)) = .next ((after i s).load ls) := by
    rw [step_of_script (s := s.load (opLine i :: ls)) hv hu rfl, runLine_opLine hi]
    exact exec_of_enabled hen
  exact core_run_succ hstep n

/-- Settles O20: `TB_IRQOFF`, `TB_RDUS` and `TB_IRQON` in turn; with `IE` = 0 between them the handler is not urgent, and
`IE` is no part of the time. -/
theorem guardedReadReturnsTheTime : Obligations.GuardedReadReturnsTheTime := by
  intro s hv hu
  have hoff := core_run_load_opLine (i := .tbIrqoff) hv hu rfl rfl [opLine .tbRdus, opLine .tbIrqon]
  have hmasked : interruptUrgent (after .tbIrqoff s).regs = false := Bool.and_false _
  have hread := core_run_load_opLine (s := after .tbIrqoff s) (i := .tbRdus) hv hmasked rfl rfl [opLine .tbIrqon]
  have hon := core_run_load_opLine (s := after .tbRdus (after .tbIrqoff s)) (i := .tbIrqon) hv hmasked rfl rfl []
  exact ⟨⟨_, (hoff 1).trans (hread 0), rfl, rfl⟩, ⟨_, ((hoff 2).trans (hread 1)).trans (hon 0), rfl, rfl⟩⟩

/-! ### A script to its end (30_encoding.md R91) -/

theorem lineSteps_pos (l : Line) : 0 < lineSteps l := by
  cases l with
  | tick more => exact Nat.mul_pos two_pos more.succ_pos
  | _ => exact one_pos

@[simp] theorem scriptSteps_nil : scriptSteps [] = 0 := rfl

@[simp] theorem scriptSteps_cons (l : Line) (ls : List Line) : scriptSteps (l :: ls) = lineSteps l + scriptSteps ls := rfl

@[simp] theorem scriptSteps_append (ls ls' : List Line) : scriptSteps (ls ++ ls') = scriptSteps ls + scriptSteps ls' := by
  simp [scriptSteps]

/-- No step is left exactly where no line is. -/
theorem scriptSteps_eq_zero {ls : List Line} : scriptSteps ls = 0 ↔ ls = [] := by
  cases ls with
  | nil => simp
  | cons l ls => simp [(lineSteps_pos l).ne']

/-- The counts that are left of a `TB_TICK` take two steps each at most. -/
theorem scriptSteps_tickLines (n : Nat) : scriptSteps (tickLines n) = 2 * n := by cases n <;> rfl

/-- A line's step leaves a script that takes fewer steps than the line and the script after it. -/
theorem runLine_scriptSteps_lt {l : Line} {s t : State} (h : runLine l s = .next t) :
    scriptSteps t.script < lineSteps l + scriptSteps s.script := by
  have hpos := lineSteps_pos l
  rcases runLine_cases h with ⟨w, i, -, -, hx⟩ | ⟨inp, -, hm⟩ | ⟨p, -, hp⟩ | ⟨n, rfl, rfl⟩
  · rw [(exec_sameOutside hx).script]
    omega
  · obtain ⟨-, rfl⟩ := mainStep_eq_next.1 hm
    rw [finishMain_script, after_script]
    omega
  · rcases hostEdge_eq_next hp with ⟨i, -, hx⟩ | rfl
    · rw [(exec_sameOutside hx).script]
      omega
    · rw [State.commit_script]
      omega
  · have hserve : scriptSteps (if interruptUrgent (after .tbCount s).regs then [.op (encode .tbOvf)] else []) ≤ 1 := by
      split <;> simp [lineSteps]
    rw [finishTick_script, scriptSteps_append, scriptSteps_append, scriptSteps_tickLines, after_script, lineSteps]
    omega

/-- A step at a script brings its end nearer. -/
theorem step_scriptSteps_lt {s t : State} (h : step s = .next t) (hs : s.script ≠ []) :
    scriptSteps t.script < scriptSteps s.script := by
  obtain ⟨l, rest, hlr⟩ := List.exists_cons_of_ne_nil hs
  obtain ⟨-, ⟨-, hnil, -⟩ | ⟨-, hl⟩⟩ := step_cases h
  · exact absurd hnil hs
  · have hline : nextLine s = l := by unfold nextLine; rw [hlr]
    rw [hline, takeLine_of_script hlr] at hl
    rw [hlr, scriptSteps_cons]
    exact runLine_scriptSteps_lt hl

section
variable {s t : State}

/-- With no line left the run is over, whatever the fuel. -/
theorem runLines_of_empty (hs : s.script = []) (fuel : Nat) : runLines fuel s = .next s := by
  cases fuel <;> simp [runLines, hs]

theorem runLines_succ_of_next (hs : s.script ≠ []) (hstep : step s = .next t) (fuel : Nat) :
    runLines (fuel + 1) s = runLines fuel t := by
  simp [runLines, hs, hstep]

theorem runLines_succ_of_refused (hs : s.script ≠ []) {e : Refusal} (hstep : step s = .refused e) (fuel : Nat) :
    runLines (fuel + 1) s = .refused e := by
  simp [runLines, hs, hstep]

/-- Fuel beyond the steps that the script can take changes nothing. -/
theorem runLines_fuel_irrelevant {fuel fuel' : Nat} (h : scriptSteps s.script ≤ fuel) (h' : scriptSteps s.script ≤ fuel') :
    runLines fuel s = runLines fuel' s := by
  induction fuel generalizing s fuel' with
  | zero =>
    have hs : s.script = [] := scriptSteps_eq_zero.1 (Nat.le_zero.1 h)
    rw [runLines_of_empty hs, runLines_of_empty hs]
  | succ fuel ih =>
    by_cases hs : s.script = []
    · rw [runLines_of_empty hs, runLines_of_empty hs]
    · have hpos : 0 < scriptSteps s.script := Nat.pos_of_ne_zero (mt scriptSteps_eq_zero.1 hs)
      obtain ⟨fuel', rfl⟩ : ∃ k, fuel' = k + 1 := Nat.exists_eq_succ_of_ne_zero (by omega)
      cases hstep : step s with
      | next t =>
        have hlt := step_scriptSteps_lt hstep hs
        rw [runLines_succ_of_next hs hstep, runLines_succ_of_next hs hstep]
        exact ih (by omega) (by omega)
      | fault e => cases e
      | refused e => rw [runLines_succ_of_refused hs hstep, runLines_succ_of_refused hs hstep]

/-- A run that has fuel enough ends with no line left, after steps of the machine and no others. -/
theorem runLines_eq_next {fuel : Nat} (hfuel : scriptSteps s.script ≤ fuel) (h : runLines fuel s = .next t) :
    t.script = [] ∧ ∃ n, n ≤ fuel ∧ Host.Core.run Sys2Proof.core n s = .next t := by
  induction fuel generalizing s with
  | zero =>
    cases h
    exact ⟨scriptSteps_eq_zero.1 (Nat.le_zero.1 hfuel), 0, le_rfl, rfl⟩
  | succ fuel ih =>
    by_cases hs : s.script = []
    · rw [runLines_of_empty hs] at h
      cases h
      exact ⟨hs, 0, Nat.zero_le _, rfl⟩
    · cases hstep : step s with
      | next u =>
        rw [runLines_succ_of_next hs hstep] at h
        have hlt := step_scriptSteps_lt hstep hs
        obtain ⟨ht, n, hn, hrun⟩ := ih (by omega) h
        exact ⟨ht, n + 1, Nat.succ_le_succ hn, (core_run_succ hstep n).trans hrun⟩
      | fault e => cases e
      | refused e =>
        rw [runLines_succ_of_refused hs hstep] at h
        cases h

/-- A script is what its first step leaves of it. -/
theorem runScript_of_next (hs : s.script ≠ []) (hstep : step s = .next t) : runScript s = runScript t := by
  have hlt := step_scriptSteps_lt hstep hs
  calc runScript s = runLines (scriptSteps s.script + 1) s := runLines_fuel_irrelevant le_rfl (Nat.le_succ _)
    _ = runLines (scriptSteps s.script) t := runLines_succ_of_next hs hstep _
    _ = runScript t := runLines_fuel_irrelevant hlt.le le_rfl

theorem runScript_of_refused (hs : s.script ≠ []) {e : Refusal} (hstep : step s = .refused e) :
    runScript s = .refused e :=
  (runLines_fuel_irrelevant le_rfl (Nat.le_succ _)).trans (runLines_succ_of_refused hs hstep _)

end

/-- Settles O60: the fuel of a run bounds the steps that its script can take. -/
theorem scriptRunsToItsEndAndNoFurther : Obligations.ScriptRunsToItsEndAndNoFurther :=
  fun _ => ⟨fun _ => runLines_eq_next le_rfl, fun _ hfuel => runLines_fuel_irrelevant hfuel le_rfl⟩

/-! ### `TB_TICK` (30_encoding.md R92, 40_timebase.md R117) -/

/-- One count of a `TB_TICK`, with the `TB_OVF` it makes urgent. -/
def afterTick (s : State) : State :=
  if interruptUrgent (after .tbCount s).regs then after .tbOvf (after .tbCount s) else after .tbCount s

/-- A time base in its range with the interrupt enabled and nothing pending: where a count of a `TB_TICK` begins. -/
structure TickReady (s : State) : Prop where
  valid   : s.cfg.Valid
  tcnt    : s.regs.tcnt < s.cfg.tmrRange
  ie      : s.regs.ie = true
  ovfPend : s.regs.ovfPend = false

/-- The time base has moved on by `n` counts, with nothing lost, and nothing else has changed. -/
structure Ticked (n : Nat) (s t : State) : Prop where
  outside : SameOutside s t
  regs    : t.regs = { s.regs with tcnt := t.regs.tcnt, mono := t.regs.mono }
  time    : (t.regs.mono.toNat + t.regs.tcnt) % 2 ^ 64 = (s.regs.mono.toNat + s.regs.tcnt + n) % 2 ^ 64
  counts  : t.counts = s.counts + n
  lost    : t.lost = s.lost

section
variable {s t u : State}

theorem Ticked.refl (s : State) : Ticked 0 s s := ⟨⟨rfl, rfl, rfl, rfl⟩, rfl, rfl, rfl, rfl⟩

theorem Ticked.trans {m n : Nat} (h : Ticked m s t) (h' : Ticked n t u) : Ticked (n + m) s u where
  outside := ⟨h'.outside.cfg.trans h.outside.cfg, h'.outside.script.trans h.outside.script,
    h'.outside.env.trans h.outside.env, h'.outside.since.trans h.outside.since⟩
  regs := by rw [h'.regs, h.regs]
  time := by
    have h1 := h.time
    have h2 := h'.time
    omega
  counts := by rw [h'.counts, h.counts, Nat.add_assoc, Nat.add_comm m]
  lost := h'.lost.trans h.lost

/-- A count at the wrap is served at once: `TCNT` drops by the range and `MONO` grows by it (40_timebase.md R110, R111).
Elsewhere the count stands by itself. -/
theorem TickReady.afterTick_spec (h : TickReady s) : TickReady (afterTick s) ∧ Ticked 1 s (afterTick s) := by
  have hlost : (after .tbCount s).lost = s.lost := by simp [lostAfter, overflowLost, h.ovfPend]
  rcases countTimer_cases h.tcnt with ⟨hwrap, hcount⟩ | ⟨hlt, hcount⟩
  · have hurgent : interruptUrgent (after .tbCount s).regs = true := by
      simp [regsAfter, hcount, interruptUrgent, enabled, h.ie]
    have htick : afterTick s = after .tbOvf (after .tbCount s) := if_pos hurgent
    have hregs : (after .tbOvf (after .tbCount s)).regs = takeOverflow s.cfg { s.regs with tcnt := 0, ovfPend := true } :=
      congrArg (takeOverflow s.cfg) hcount
    rw [htick]
    refine ⟨⟨h.valid, ?_, ?_, rfl⟩, ⟨⟨rfl, rfl, rfl, rfl⟩, ?_, ?_, rfl, hlost⟩⟩
    · rw [hregs]; exact tmrRange_pos s.cfg
    · rw [hregs]; exact h.ie
    · rw [hregs, takeOverflow, h.ovfPend.symm]
    · rw [hregs, takeOverflow_mono_toNat, takeOverflow_tcnt]
      dsimp only
      omega
  · have hregs : (after .tbCount s).regs = { s.regs with tcnt := s.regs.tcnt + 1 } := hcount
    have hplain : interruptUrgent (after .tbCount s).regs = false := by
      rw [hregs]; simp [interruptUrgent, enabled, h.ovfPend]
    have htick : afterTick s = after .tbCount s := if_neg (Bool.eq_false_iff.1 hplain)
    rw [htick]
    refine ⟨⟨h.valid, ?_, ?_, ?_⟩, ⟨⟨rfl, rfl, rfl, rfl⟩, ?_, ?_, rfl, hlost⟩⟩
    · rw [hregs]; exact hlt
    · rw [hregs]; exact h.ie
    · rw [hregs]; exact h.ovfPend
    · rw [hregs]
    · rw [hregs]; rfl

/-- A count of a `TB_TICK` is run with its `TB_OVF` before what is left of the script. -/
theorem TickReady.runScript_tick (h : TickReady s) (n : Nat) (rest : List Line) :
    runScript { s with script := .tick n :: rest } = runScript { afterTick s with script := tickLines n ++ rest } := by
  have hu : interruptUrgent s.regs = false := by simp [interruptUrgent, enabled, h.ovfPend]
  have hstep : step { s with script := .tick n :: rest } = runLine (.tick n) { s with script := rest } :=
    step_of_script (s := { s with script := .tick n :: rest }) h.valid hu rfl
  obtain ⟨hserve, hplain⟩ := runLine_tick n s rest
  unfold afterTick
  split
  case isTrue hurgent =>
    rw [runScript_of_next (List.cons_ne_nil _ _) (hstep.trans (hserve hurgent))]
    have hovf := step_opLine_tbOvf (s := after .tbCount s) h.valid (tickLines n ++ rest)
    exact runScript_of_next (List.cons_ne_nil _ _) (hovf.trans (exec_of_enabled hurgent))
  case isFalse hurgent =>
    exact runScript_of_next (List.cons_ne_nil _ _) (hstep.trans (hplain (Bool.eq_false_of_not_eq_true hurgent)))

/-- `TB_TICK n` before any script moves the time base on by `n` counts and leaves the script. -/
theorem TickReady.exists_ticked (h : TickReady s) (n : Nat) :
    ∃ t, TickReady t ∧ Ticked n s t ∧
      ∀ rest, runScript { s with script := tickLines n ++ rest } = runScript { t with script := rest } := by
  induction n generalizing s with
  | zero => exact ⟨s, h, .refl s, fun _ => rfl⟩
  | succ n ih =>
    obtain ⟨hready, hone⟩ := h.afterTick_spec
    obtain ⟨t, ht, hmany, hrun⟩ := ih hready
    exact ⟨t, ht, hone.trans hmany, fun rest => (h.runScript_tick n rest).trans (hrun rest)⟩

end

/-- With no script a run is over. -/
theorem runScript_of_empty {s : State} (hs : s.script = []) : runScript s = .next s := runLines_of_empty hs _

/-- Settles O19: the counts one after the other, then the end of the script, or a `TB_OVF` with nothing pending. -/
theorem ticksMoveTheTimeBaseByTheirNumber : Obligations.TicksMoveTheTimeBaseByTheirNumber := by
  intro n s hinv hs hie hpend
  have hready : TickReady s := ⟨hinv.valid, hinv.fits.tcnt, hie, hpend⟩
  obtain ⟨t, ht, htick, hrun⟩ := hready.exists_ticked n
  have hempty : t.script = [] := htick.outside.script.trans hs
  have hload (ls : List Line) : runScript (s.load (tickLines n ++ ls)) = runScript { t with script := ls } := by
    rw [← hrun ls, State.load, hs, List.append_nil]
  constructor
  · refine ⟨t, ?_, hempty, htick.outside, htick.regs, htick.time, htick.counts, htick.lost⟩
    calc runScript (s.load (tickLines n)) = runScript (s.load (tickLines n ++ [])) := by rw [List.append_nil]
      _ = runScript { t with script := [] } := hload []
      _ = .next { t with script := [] } := runScript_of_empty rfl
      _ = .next t := by rw [← hempty]
  · have hdisabled : enabled t.regs .tbOvf = false := by simp [enabled, ht.ovfPend]
    have hrefused := (step_opLine_tbOvf ht.valid []).trans (exec_eq_refused.2 ⟨hdisabled, rfl⟩)
    exact (hload [opLine .tbOvf]).trans (runScript_of_refused (List.cons_ne_nil _ _) hrefused)

/-! ### The bands of the readings (30_encoding.md R87) -/

/-- Each button is classified exactly in its band (41_button_decoder.md R130, R131). -/
theorem classify_eq_iff (raw : Nat) :
    (classify raw = .mode ↔ 340 ≤ raw ∧ raw < 450) ∧ (classify raw = .inc ↔ 210 ≤ raw ∧ raw < 280) ∧
      (classify raw = .dec ↔ 130 ≤ raw ∧ raw < 200) := by
  rw [← inMode_iff, ← inInc_iff, ← inDec_iff]
  rcases classify_cases raw with ⟨h, hm, hi, hd⟩ | ⟨h, hm, hi, hd⟩ | ⟨h, hm, hi, hd⟩ | ⟨h, hm, hi, hd⟩ <;>
    simp [h, hm, hi, hd]

/-- No button is classified exactly outside the three bands. -/
theorem classify_eq_none_iff {raw : Nat} :
    classify raw = .none ↔ ¬(340 ≤ raw ∧ raw < 450) ∧ ¬(210 ≤ raw ∧ raw < 280) ∧ ¬(130 ≤ raw ∧ raw < 200) := by
  obtain ⟨hm, hi, hd⟩ := classify_eq_iff raw
  rw [← hm, ← hi, ← hd]
  cases classify raw <;> simp

/-- The readings below a bound that mean a button, or none. -/
def readingsOf (n : Nat) (b : ButtonId) : Finset Nat := (Finset.range n).filter fun raw => classify raw = b

/-- A list of the readings of a button has as many entries as there are readings: none is repeated. -/
theorem length_filter_classify (n : Nat) (b : ButtonId) :
    ((List.range n).filter fun raw => classify raw = b).length = (readingsOf n b).card := rfl

/-- A band below the bound has as many readings as it is wide. -/
theorem card_readingsOf_of_band {n : Nat} {b : ButtonId} {lo hi : Nat} (hb : ∀ raw, classify raw = b ↔ lo ≤ raw ∧ raw < hi)
    (hhi : hi ≤ n) : (readingsOf n b).card = hi - lo := by
  have hband : readingsOf n b = Finset.Ico lo hi := by
    ext raw
    simp only [readingsOf, Finset.mem_filter, Finset.mem_range, Finset.mem_Ico, hb]
    omega
  rw [hband, Nat.card_Ico]

/-- Every reading means one button or none, so the four share the readings. -/
theorem card_readingsOf_sum (n : Nat) :
    (readingsOf n .none).card + ((readingsOf n .mode).card + ((readingsOf n .inc).card + (readingsOf n .dec).card)) = n := by
  have hmaps : Set.MapsTo classify (Finset.range n) ({.none, .mode, .inc, .dec} : Finset ButtonId) := by
    intro raw _
    cases classify raw <;> simp
  have hsum := Finset.card_eq_sum_card_fiberwise hmaps
  rw [Finset.card_range, Finset.sum_insert (by decide), Finset.sum_insert (by decide), Finset.sum_insert (by decide),
    Finset.sum_singleton] at hsum
  exact hsum.symm

/-- Settles O23: the rows are the bands and the gaps between them; the readings of no button are those the bands leave. -/
theorem bandTableClassifiesEveryReading : Obligations.BandTableClassifiesEveryReading := by
  refine ⟨fun raw _ => ?_, ?_⟩
  · obtain ⟨hm, hi, hd⟩ := classify_eq_iff raw
    rw [hm, hi, hd, classify_eq_none_iff]
    omega
  · simp only [length_filter_classify]
    have hm : (readingsOf 1024 .mode).card = 110 :=
      card_readingsOf_of_band (fun raw => (classify_eq_iff raw).1) (by decide)
    have hi : (readingsOf 1024 .inc).card = 70 :=
      card_readingsOf_of_band (fun raw => (classify_eq_iff raw).2.1) (by decide)
    have hd : (readingsOf 1024 .dec).card = 70 :=
      card_readingsOf_of_band (fun raw => (classify_eq_iff raw).2.2) (by decide)
    have hsum := card_readingsOf_sum 1024
    exact ⟨hd, hi, hm, by omega⟩

end Sys2Proof.Machine

/-! PROOFS of the statements about the time base (40_timebase.md): its operations and the elapsed time, the counting law
that every step keeps, and what the law says of the readings. -/

namespace Sys2Proof.Machine

/-! ### The timer and its interrupt (40_timebase.md R110 to R113) -/

section
variable {c : Config} {r : Regs} {s t : State}

/-- An overflow is lost at the timer's last value with the request set (60_exceptions.md R208). -/
theorem overflowLost_iff : overflowLost c r = true ↔ r.tcnt = c.tmrRange - 1 ∧ r.ovfPend = true := by
  simp [overflowLost, timerWraps]

/-- `TB_OVF` is urgent where a request stands with the interrupt enabled (60_exceptions.md R205). -/
theorem interruptUrgent_iff : interruptUrgent r = true ↔ r.ovfPend = true ∧ r.ie = true := by
  simp [interruptUrgent, enabled]

/-- Every operation but `TB_COUNT` and `SYS_RESET` leaves the ghosts alone (log entry 14). -/
theorem after_sameBeside {i : Instr} (hcount : i ≠ .tbCount) (hreset : i ≠ .sysReset) (s : State) :
    SameBeside s (after i s) := by
  cases i with
  | tbCount => exact absurd rfl hcount
  | sysReset => exact absurd rfl hreset
  | _ => exact ⟨⟨rfl, rfl, rfl, rfl⟩, rfl, rfl⟩

/-- A line that may stand before an urgent interrupt performs `TB_OVF` or a reset (log entry 8). -/
theorem runLine_of_goesFirst {l : Line} (h : goesFirst l = true) :
    ∃ i, (i = .tbOvf ∨ i = .sysReset) ∧ ∀ s, runLine l s = exec i s := by
  rcases goesFirst_cases h with ⟨w, rfl, hd | hd⟩ | ⟨p, rfl, hrst⟩
  · exact ⟨.tbOvf, .inl rfl, runLine_of_decode hd⟩
  · exact ⟨.sysReset, .inr rfl, runLine_of_decode hd⟩
  · exact ⟨.sysReset, .inr rfl, fun s => (runLine_pins p s).1 hrst⟩

/-- Where the interrupt is urgent every step takes it or resets (60_exceptions.md R205). -/
theorem step_regs_of_urgent (hu : interruptUrgent s.regs = true) (hs : step s = .next t) :
    t.regs = takeOverflow s.cfg s.regs ∨ t.regs = Regs.reset := by
  obtain ⟨-, ⟨-, -, -, rfl⟩ | ⟨hfirst, hl⟩⟩ := step_cases hs
  · exact .inl rfl
  · obtain ⟨i, hi, hrun⟩ := runLine_of_goesFirst (hfirst.resolve_left (by simp [hu]))
    obtain ⟨-, rfl⟩ := exec_eq_next.1 ((hrun _).symm.trans hl)
    rw [after_regs, takeLine_cfg, takeLine_regs]
    rcases hi with rfl | rfl
    · exact .inl rfl
    · exact .inr rfl

end

/-- Settles O10: a count inside the range, by whether it is the last. -/
theorem timerCountsAndWraps : Obligations.TimerCountsAndWraps := by
  intro s hrange
  refine ⟨after .tbCount s, exec_of_enabled rfl, ⟨rfl, rfl, rfl, rfl⟩, rfl, rfl, fun hlast => ?_, fun hlast => ?_, ?_⟩
  · rcases countTimer_cases hrange with ⟨-, hcount⟩ | ⟨hlt, -⟩
    · exact hcount
    · omega
  · rcases countTimer_cases hrange with ⟨hwrap, -⟩ | ⟨-, hcount⟩
    · omega
    · exact hcount
  · rw [after_lost, lostAfter, Bool.or_eq_true, overflowLost_iff]

/-- Settles O11: the handler's effect where it is enabled, and its refusal elsewhere. -/
theorem overflowHandlerAddsTheRange : Obligations.OverflowHandlerAddsTheRange := by
  refine ⟨fun s hpend hie => ?_, fun s hoff t hx => ?_⟩
  · have hu : interruptUrgent s.regs = true := interruptUrgent_iff.2 ⟨hpend, hie⟩
    exact ⟨after .tbOvf s, exec_of_enabled hu, after_sameBeside (by decide) (by decide) s, rfl, rfl,
      takeOverflow_mono_toNat s.cfg s.regs, fun _ => step_regs_of_urgent hu⟩
  · obtain ⟨hpend, hie⟩ := interruptUrgent_iff.1 (exec_eq_next.1 hx).1
    simp [hpend, hie] at hoff

/-- Settles O12: `IE` alone is written, so the request that stands decides whether the handler is enabled. -/
theorem interruptEnableIsClearedAndSet : Obligations.InterruptEnableIsClearedAndSet := by
  intro s
  have hurgent : interruptUrgent (after .tbIrqon s).regs = true ↔ s.regs.ovfPend = true :=
    interruptUrgent_iff.trans (and_iff_left rfl)
  exact ⟨⟨after .tbIrqoff s, exec_of_enabled rfl, after_sameBeside (by decide) (by decide) s, rfl, rfl, Bool.and_false _⟩,
    ⟨after .tbIrqon s, exec_of_enabled rfl, after_sameBeside (by decide) (by decide) s, rfl, rfl, hurgent,
      fun hpend _ => step_regs_of_urgent (hurgent.2 hpend)⟩⟩

/-! ### Reading the time (40_timebase.md R114 to R116) -/

/-- Settles O13: the ports and the reads show the two functions of the time base, which look at no request. -/
theorem readersReturnTheTime : Obligations.ReadersReturnTheTime := by
  intro s
  refine ⟨⟨after .tbRdus s, nowUs s.cfg s.regs, exec_of_enabled rfl, after_sameBeside (by decide) (by decide) s, rfl, rfl,
    nowUs_toNat s.cfg s.regs, rfl⟩, ⟨after .tbRdms s, nowMs s.cfg s.regs, exec_of_enabled rfl,
    after_sameBeside (by decide) (by decide) s, rfl, rfl, nowMs_toNat s.cfg s.regs, ?_, rfl⟩⟩
  have hlt := (nowUs s.cfg s.regs).isLt
  rw [nowMs_toNat]
  omega

/-- Settles O14: subtraction modulo 2^64, which takes back what was added modulo 2^64. -/
theorem elapsedTimeIsForwardAcrossAWrap : Obligations.ElapsedTimeIsForwardAcrossAWrap := by
  refine ⟨fun now mark => ?_, fun m d hd => ?_⟩
  · have hmark := mark.isLt
    rw [elapsed_toNat]
    omega
  · rw [elapsed, BitVec.ofNat_add, BitVec.add_comm, BitVec.add_sub_cancel, BitVec.toNat_ofNat, Nat.mod_eq_of_lt hd]

/-! ### The counting law (40_timebase.md R117) -/

/-- The counts that the time base accounts for: a pending overflow stands for one range of the timer (R117). -/
def countedTime (c : Config) (r : Regs) : Nat := r.mono.toNat + r.tcnt + (if r.ovfPend = true then c.tmrRange else 0)

/-- The counting law is that the time base accounts for every count, while no overflow has been lost. -/
theorem countLaw_iff {s : State} :
    CountLaw s ↔ (s.lost = false → countedTime s.cfg s.regs ≡ s.counts [MOD 2 ^ 64]) := Iff.rfl

theorem countedTime_of_not_pending {r : Regs} (h : r.ovfPend = false) (c : Config) :
    countedTime c r = r.mono.toNat + r.tcnt := by simp [countedTime, h]

section
variable {c : Config} {r r' : Regs} {s t : State}

theorem SameTimeBase.countedTime_eq (h : SameTimeBase r r') (c : Config) : countedTime c r' = countedTime c r := by
  simp only [countedTime, h.mono, h.tcnt, h.ovfPend]

/-- A count that loses nothing adds one: at the wrap the range moves from `TCNT` to the request (R110). -/
theorem countedTime_countTimer (hrange : r.tcnt < c.tmrRange) (hkept : overflowLost c r = false) :
    countedTime c (countTimer c r) = countedTime c r + 1 := by
  rcases countTimer_cases hrange with ⟨hwrap, hcount⟩ | ⟨-, hcount⟩ <;> rw [hcount]
  · have hpend : r.ovfPend = false :=
      Bool.eq_false_iff.2 fun hp => Bool.eq_false_iff.1 hkept (overflowLost_iff.2 ⟨by omega, hp⟩)
    simp only [countedTime, hpend, if_true, Bool.false_eq_true, if_false]
    omega
  · simp only [countedTime]
    omega

/-- The handler moves the range from the request to `MONO`, modulo 2^64 (R111). -/
theorem countedTime_takeOverflow (hpend : r.ovfPend = true) :
    countedTime c (takeOverflow c r) ≡ countedTime c r [MOD 2 ^ 64] := by
  rw [countedTime_of_not_pending (takeOverflow_ovfPend r c), takeOverflow_mono_toNat, takeOverflow_tcnt, countedTime,
    if_pos hpend, Nat.add_right_comm]
  exact (Nat.mod_modEq _ _).add_right _

/-- A step that leaves the time base and the ghosts alone keeps the law. -/
theorem CountLaw.of_sameTimeBase (h : CountLaw s) (hbeside : SameBeside s t) (hregs : SameTimeBase s.regs t.regs) :
    CountLaw t := by
  rw [countLaw_iff, hbeside.cfg, hregs.countedTime_eq, hbeside.counts, hbeside.lost]
  exact h

/-- MAIN writes neither the time base nor the ghosts (20_memory.md R68). -/
theorem CountLaw.after_main_keeps {i : Instr} (h : CountLaw s) (hi : i.agents = [.main]) : CountLaw (after i s) :=
  h.of_sameTimeBase (after_sameBeside (by rintro rfl; cases hi) (by rintro rfl; cases hi) s)
    (regsAfter_sameTimeBase s.cfg s.regs hi)

/-- A count that loses an overflow ends the law's premise; any other is one more in the time base and in the ghost. -/
theorem CountLaw.tbCount_keeps (h : CountLaw s) (hrange : s.regs.tcnt < s.cfg.tmrRange) : CountLaw (after .tbCount s) := by
  intro hlost
  obtain ⟨hbefore, hkept⟩ := Bool.or_eq_false_iff.1 hlost
  calc countedTime s.cfg (countTimer s.cfg s.regs) = countedTime s.cfg s.regs + 1 := countedTime_countTimer hrange hkept
    _ ≡ s.counts + 1 [MOD 2 ^ 64] := (countLaw_iff.1 h hbefore).add_right 1

theorem CountLaw.tbOvf_keeps (h : CountLaw s) (hpend : s.regs.ovfPend = true) : CountLaw (after .tbOvf s) :=
  fun hlost => (countedTime_takeOverflow hpend).trans (h hlost)

theorem CountLaw.exec_keeps {i : Instr} (h : CountLaw s) (hrange : s.regs.tcnt < s.cfg.tmrRange)
    (hx : exec i s = .next t) : CountLaw t := by
  obtain ⟨hen, rfl⟩ := exec_eq_next.1 hx
  cases i with
  | tbCount => exact h.tbCount_keeps hrange
  | tbOvf => exact h.tbOvf_keeps (interruptUrgent_iff.1 hen).1
  | tbRdus | tbRdms | tbIrqoff | tbIrqon => exact h
  | sysReset => exact fun _ => rfl
  | _ => exact h.after_main_keeps rfl

theorem CountLaw.runLine_keeps {l : Line} (h : CountLaw s) (hrange : s.regs.tcnt < s.cfg.tmrRange)
    (hl : runLine l s = .next t) : CountLaw t := by
  rcases runLine_cases hl with ⟨w, i, -, -, hx⟩ | ⟨inp, -, hm⟩ | ⟨p, -, hp⟩ | ⟨n, -, rfl⟩
  · exact h.exec_keeps hrange hx
  · obtain ⟨u, hu, rfl⟩ := andThen_eq_next.1 hm
    exact (h.exec_keeps hrange hu).of_sameTimeBase ⟨⟨rfl, rfl, rfl, rfl⟩, rfl, rfl⟩ (finishMain_sameTimeBase s.regs u)
  · rcases hostEdge_eq_next hp with ⟨i, -, hx⟩ | rfl
    · exact h.exec_keeps hrange hx
    · exact h
  · exact h.tbCount_keeps hrange

theorem CountLaw.takeLine_keeps (h : CountLaw s) : CountLaw (takeLine s) := by simpa [CountLaw] using h

theorem CountLaw.step_keeps (h : CountLaw s) (hinv : Inv s) (hs : step s = .next t) : CountLaw t := by
  have hrange : s.regs.tcnt < s.cfg.tmrRange := hinv.fits.tcnt
  obtain ⟨-, ⟨hu, -, -, rfl⟩ | ⟨-, hl⟩⟩ := step_cases hs
  · exact h.tbOvf_keeps (interruptUrgent_iff.1 hu).1
  · exact h.takeLine_keeps.runLine_keeps (by simpa using hrange) hl

end

/-- Settles O15: what the time base accounts for grows with the ghost count, and only a count or a reset moves either. -/
theorem everyStepKeepsTheCountingLaw : Obligations.EveryStepKeepsTheCountingLaw :=
  fun _ _ hinv h hs => h.step_keeps hinv hs

/-! ### What the law says of the readings (40_timebase.md R117 to R119) -/

section
variable {s t : State}

/-- `MONO` is a multiple of the timer's range, so adding a `TCNT` below the range does not carry out of 64 bits (10_state.md
R38 (g)). -/
theorem Inv.mono_add_tcnt_lt (h : Inv s) : s.regs.mono.toNat + s.regs.tcnt < 2 ^ 64 := by
  have hmono := s.regs.mono.isLt
  have hdvd : s.cfg.tmrRange ∣ 2 ^ 64 - s.regs.mono.toNat :=
    Nat.dvd_sub (tmrRange_dvd h.valid) (Nat.dvd_of_mod_eq_zero h.regs.mono)
  have hle : s.cfg.tmrRange ≤ 2 ^ 64 - s.regs.mono.toNat := Nat.le_of_dvd (Nat.sub_pos_of_lt hmono) hdvd
  have hrange : s.regs.tcnt < s.cfg.tmrRange := h.fits.tcnt
  omega

/-- With nothing pending or lost, `MONO` + `TCNT` is the number of counts modulo 2^64. -/
theorem CountLaw.modEq_counts (h : CountLaw s) (hlost : s.lost = false) (hpend : s.regs.ovfPend = false) :
    s.regs.mono.toNat + s.regs.tcnt ≡ s.counts [MOD 2 ^ 64] :=
  countedTime_of_not_pending hpend s.cfg ▸ countLaw_iff.1 h hlost

end

/-- Settles O16: both numbers are below 2^64, so the law is an equation, and the reading is computed from one of them. -/
theorem readingIsTheTrueTime : Obligations.ReadingIsTheTrueTime := by
  intro s hinv h hlost hpend hcounts
  have htime : s.regs.mono.toNat + s.regs.tcnt = s.counts :=
    (h.modEq_counts hlost hpend).eq_of_lt_of_lt hinv.mono_add_tcnt_lt hcounts
  exact ⟨htime, by rw [nowUs_toNat, htime]⟩

/-- Settles O17: a quantum without a denominator keeps the congruence that the law is. -/
theorem integerQuantumReadsThroughEveryWrap : Obligations.IntegerQuantumReadsThroughEveryWrap := by
  intro s _ h hlost hpend hden
  rw [nowUs_toNat, hden, Nat.div_one]
  exact (h.modEq_counts hlost hpend).mul_right s.cfg.usNum

section
variable {s t : State}

/-- No line writes the parameters (70_reset_and_hazards.md R236). -/
theorem runLine_cfg {l : Line} (hl : runLine l s = .next t) : t.cfg = s.cfg := by
  rcases runLine_cases hl with ⟨w, i, -, -, hx⟩ | ⟨inp, -, hm⟩ | ⟨p, -, hp⟩ | ⟨n, -, rfl⟩
  · exact (exec_sameOutside hx).cfg
  · obtain ⟨-, rfl⟩ := mainStep_eq_next.1 hm
    rfl
  · rcases hostEdge_eq_next hp with ⟨i, -, hx⟩ | rfl
    · exact (exec_sameOutside hx).cfg
    · rfl
  · rfl

/-- No step writes the parameters (70_reset_and_hazards.md R236). -/
theorem step_cfg (hs : step s = .next t) : t.cfg = s.cfg := by
  obtain ⟨-, ⟨-, -, -, rfl⟩ | ⟨-, hl⟩⟩ := step_cases hs
  · rfl
  · exact (runLine_cfg hl).trans (takeLine_cfg s)

/-- A run that has a step to make and a next state at its end makes its first step. -/
theorem core_run_succ_eq_next {n : Nat} (h : Host.Core.run Sys2Proof.core (n + 1) s = .next t) :
    ∃ u, step s = .next u ∧ Host.Core.run Sys2Proof.core n u = .next t := by
  cases hstep : step s with
  | next u => exact ⟨u, rfl, core_run_succ hstep n ▸ h⟩
  | fault e => cases e
  | refused e =>
    have hcore : Sys2Proof.core.step s = .refused e := hstep
    simp [Host.Core.run, hcore] at h

/-- What every step keeps holds after every run. -/
theorem core_run_keeps {P : State → Prop} (hP : ∀ {u v}, P u → step u = .next v → P v) {n : Nat} (hs : P s)
    (hrun : Host.Core.run Sys2Proof.core n s = .next t) : P t := by
  induction n generalizing s with
  | zero => cases hrun; exact hs
  | succ n ih =>
    obtain ⟨u, hstep, hrest⟩ := core_run_succ_eq_next hrun
    exact ih (hP hs hstep) hrest

/-- A legal state with given parameters in which the counting law holds. -/
structure Lawful (c : Config) (s : State) : Prop where
  inv      : Inv s
  countLaw : CountLaw s
  cfg      : s.cfg = c

theorem Lawful.step_keeps {c : Config} (h : Lawful c s) (hs : step s = .next t) : Lawful c t :=
  ⟨h.inv.step_keeps hs, h.countLaw.step_keeps h.inv hs, (step_cfg hs).trans h.cfg⟩

end

/-- Settles O18: the law holds at both ends of the run, so each reading is the true time there, and the later one is not
reduced. -/
theorem readingsNeverGoBack : Obligations.ReadingsNeverGoBack := by
  intro n s t hinv hlaw hrun hls hlt hps hpt hle hcounts hwrap
  obtain ⟨hinvT, hlawT, hcfg⟩ := core_run_keeps (P := Lawful s.cfg) Lawful.step_keeps ⟨hinv, hlaw, rfl⟩ hrun
  obtain ⟨-, hreadS⟩ := readingIsTheTrueTime s hinv hlaw hls hps (hle.trans_lt hcounts)
  obtain ⟨-, hreadT⟩ := readingIsTheTrueTime t hinvT hlawT hlt hpt hcounts
  calc (nowUs s.cfg s.regs).toNat = s.counts * s.cfg.usNum / s.cfg.usDen % 2 ^ 64 := hreadS
    _ ≤ s.counts * s.cfg.usNum / s.cfg.usDen := Nat.mod_le _ _
    _ ≤ t.counts * t.cfg.usNum / t.cfg.usDen := by rw [hcfg]; exact Nat.div_le_div_right (Nat.mul_le_mul_right _ hle)
    _ = (nowUs t.cfg t.regs).toNat := by rw [hreadT, Nat.mod_eq_of_lt hwrap]

end Sys2Proof.Machine

/-! PROOFS of the statements about the Analog Button Decoder (41_button_decoder.md R132, R133): one sample, and a sequence
of samples. -/

namespace Sys2Proof.Machine

/-! ### One sample (41_button_decoder.md R132) -/

/-- The latches after a sample, with the ends of the bands as R130 gives them. -/
theorem latchBands_eq (r : Regs) (raw : Nat) :
    latchBands r raw = { r with
      lMode := decide (340 ≤ raw ∧ raw < 450), lInc := decide (210 ≤ raw ∧ raw < 280),
      lDec := decide (130 ≤ raw ∧ raw < 200) } := by
  have hm : inMode raw = decide (340 ≤ raw ∧ raw < 450) := Bool.eq_iff_iff.2 (inMode_iff.trans decide_eq_true_iff.symm)
  have hi : inInc raw = decide (210 ≤ raw ∧ raw < 280) := Bool.eq_iff_iff.2 (inInc_iff.trans decide_eq_true_iff.symm)
  have hd : inDec raw = decide (130 ≤ raw ∧ raw < 200) := Bool.eq_iff_iff.2 (inDec_iff.trans decide_eq_true_iff.symm)
  rw [latchBands, hm, hi, hd]

/-- A sample leaves in each button's latch whether the reading is classified as that button: the latch is the memory of
the reading before. -/
theorem latchOf_latchBands (r : Regs) (raw : Nat) {b : ButtonId} (hb : b ≠ .none) :
    latchOf (latchBands r raw) b = decide (classify raw = b) := by
  obtain ⟨hm, hi, hd⟩ := classify_eq_iff raw
  rw [latchBands_eq]
  cases b with
  | none => exact absurd rfl hb
  | mode => simp only [latchOf, hm]
  | inc => simp only [latchOf, hi]
  | dec => simp only [latchOf, hd]

/-- Settles O24: the sample is enabled in every state, and its edge is `buttonEdge` of the latches before it. -/
theorem sampleLatchesBandsAndFiresEdges : Obligations.SampleLatchesBandsAndFiresEdges := by
  intro raw s
  exact ⟨after (.btSample raw) s, buttonEdge s.regs raw, exec_of_enabled rfl,
    after_sameBeside (i := .btSample raw) nofun nofun s, latchBands_eq s.regs raw, rfl, fun _ => buttonEdge_iff⟩

/-! ### A sequence of samples (41_button_decoder.md R133) -/

/-- A sequence of samples returns the edge of its first sample, then the edges of the rest from the state it leaves. -/
theorem sampleEdges_cons (s : State) (raw : Nat) (rest : List Nat) :
    sampleEdges s (raw :: rest) = buttonEdge s.regs raw :: sampleEdges (after (.btSample raw) s) rest := by
  rw [sampleEdges, exec_of_enabled rfl]
  rfl

/-- Settles O25, by induction on the readings for every state: a sample returns the button's edge exactly where it enters
the band, and leaves in the latch whether the band is held at the next. -/
theorem oneActionPerPress : Obligations.OneActionPerPress := by
  intro raws s b hb
  induction raws generalizing s with
  | nil => rfl
  | cons raw rest ih =>
    have hheld : latchOf (after (.btSample raw) s).regs b = decide (classify raw = b) := latchOf_latchBands s.regs raw hb
    rw [sampleEdges_cons, List.count_cons, ih, hheld, bandEntries, Nat.add_comm]
    simp only [beq_iff_eq, buttonEdge_iff hb]

end Sys2Proof.Machine

/-! PROOFS of the statements about the Clock State Machine (42_clock_fsm.md R141 to R151): the three buttons, one elapsed
second in Normal and in a setting state, and runs of seconds. -/

namespace Sys2Proof.Machine

/-! ### Runs of one operation -/

/-- A run of an operation that is enabled in every state iterates its effect on the registers. -/
theorem exists_applyTimes_regs {i : Instr} (hi : ∀ r, enabled r i = true) (n : Nat) (s : State) :
    ∃ t, applyTimes i n s = .next t ∧ t.regs = (fun r => regsAfter s.cfg r i)^[n] s.regs := by
  induction n generalizing s with
  | zero => exact ⟨s, rfl, rfl⟩
  | succ n ih =>
    obtain ⟨t, hrun, hregs⟩ := ih (after i s)
    exact ⟨t, by rw [applyTimes, exec_of_enabled (hi _)]; exact hrun, hregs⟩

/-! ### The effects of the buttons, mode by mode (42_clock_fsm.md R143 to R145) -/

section
variable {r : Regs}

theorem ClkMode.cases_eq (m : ClkMode) : m = .normal ∨ m = .settingHours ∨ m = .settingMinutes := by cases m <;> simp

theorem ClkMode.advance_code (m : ClkMode) : m.advance.code.toNat = (m.code.toNat + 1) % 3 := by cases m <;> rfl

/-- The modes are a cycle of three (42_clock_fsm.md R143). -/
theorem ClkMode.advance_three (m : ClkMode) : m.advance.advance.advance = m := by cases m <;> rfl

theorem incEdge_of_normal (h : r.clkmode = .normal) : incEdge r = r := by rw [incEdge, h]
theorem incEdge_of_settingHours (h : r.clkmode = .settingHours) : incEdge r = addHours r 1 := by rw [incEdge, h]
theorem incEdge_of_settingMinutes (h : r.clkmode = .settingMinutes) : incEdge r = addMinutes r 1 := by rw [incEdge, h]
theorem decEdge_of_normal (h : r.clkmode = .normal) : decEdge r = r := by rw [decEdge, h]
theorem decEdge_of_settingHours (h : r.clkmode = .settingHours) : decEdge r = addHours r 23 := by rw [decEdge, h]
theorem decEdge_of_settingMinutes (h : r.clkmode = .settingMinutes) : decEdge r = addMinutes r 59 := by rw [decEdge, h]

/-- The hour is set modulo 24, and every such hour fits its five bits. -/
theorem addHours_hh_toNat (r : Regs) (n : Nat) : (addHours r n).hh.toNat = (r.hh.toNat + n) % 24 := by
  rw [addHours_hh, BitVec.toNat_ofNat, Config.hoursMod]
  omega

/-- The minute is set modulo 60, and every such minute fits its six bits. -/
theorem addMinutes_mm_toNat (r : Regs) (n : Nat) : (addMinutes r n).mm.toNat = (r.mm.toNat + n) % 60 := by
  rw [addMinutes_mm, BitVec.toNat_ofNat, Config.minMod]
  omega

/-- Two settings that add up to a whole day bring an hour in range back. -/
theorem addHours_addHours (hr : TimeInRange r) {m n : Nat} (hmn : m + n = 24) :
    addHours (addHours r m) n = { r with idle := 0 } := by
  have hh : (addHours (addHours r m) n).hh = r.hh := by
    obtain ⟨hhours, -, -⟩ := hr
    apply BitVec.eq_of_toNat_eq
    rw [addHours_hh_toNat, addHours_hh_toNat]
    omega
  rw [← hh]
  rfl

/-- Two settings that add up to a whole hour bring a minute in range back. -/
theorem addMinutes_addMinutes (hr : TimeInRange r) {m n : Nat} (hmn : m + n = 60) :
    addMinutes (addMinutes r m) n = { r with idle := 0 } := by
  have hm : (addMinutes (addMinutes r m) n).mm = r.mm := by
    obtain ⟨-, hminutes, -⟩ := hr
    apply BitVec.eq_of_toNat_eq
    rw [addMinutes_mm_toNat, addMinutes_mm_toNat]
    omega
  rw [← hm]
  rfl

/-- A decrement undoes an increment: the steps of R144 and R145 add up to the modulus. -/
theorem decEdge_incEdge (hr : TimeInRange r) : decEdge (incEdge r) = { r with idle := (decEdge (incEdge r)).idle } := by
  rcases r.clkmode.cases_eq with hm | hm | hm
  · rw [incEdge_of_normal hm, decEdge_of_normal hm]
  · rw [incEdge_of_settingHours hm, decEdge_of_settingHours (r := addHours r 1) hm, addHours_addHours hr (by decide)]
  · rw [incEdge_of_settingMinutes hm, decEdge_of_settingMinutes (r := addMinutes r 1) hm,
      addMinutes_addMinutes hr (by decide)]

theorem incEdge_decEdge (hr : TimeInRange r) : incEdge (decEdge r) = { r with idle := (incEdge (decEdge r)).idle } := by
  rcases r.clkmode.cases_eq with hm | hm | hm
  · rw [decEdge_of_normal hm, incEdge_of_normal hm]
  · rw [decEdge_of_settingHours hm, incEdge_of_settingHours (r := addHours r 23) hm, addHours_addHours hr (by decide)]
  · rw [decEdge_of_settingMinutes hm, incEdge_of_settingMinutes (r := addMinutes r 59) hm,
      addMinutes_addMinutes hr (by decide)]

end

/-- Settles O30: one press advances the mode, and three go round its cycle. -/
theorem modeButtonCyclesTheMode : Obligations.ModeButtonCyclesTheMode := by
  intro s
  obtain ⟨t, hrun, hregs⟩ := exists_applyTimes_regs (i := .ckMode) (fun _ => rfl) 3 s
  refine ⟨⟨after .ckMode s, exec_of_enabled rfl, after_sameBeside (by decide) (by decide) s, rfl, rfl,
    congrArg ClkMode.advance, congrArg ClkMode.advance, congrArg ClkMode.advance, s.regs.clkmode.advance_code⟩,
    t, hrun, ?_⟩
  calc t.regs = { s.regs with clkmode := s.regs.clkmode.advance.advance.advance, idle := 0 } := hregs
    _ = { s.regs with idle := 0 } := by rw [ClkMode.advance_three]

/-- Settles O31, mode by mode. -/
theorem incrementSetsHoursOrMinutes : Obligations.IncrementSetsHoursOrMinutes := by
  intro s
  refine ⟨after .ckInc s, exec_of_enabled rfl, after_sameBeside (by decide) (by decide) s, rfl, incEdge_of_normal,
    fun hm => ?_, fun hm => ?_⟩
  · rw [show (after .ckInc s).regs = addHours s.regs 1 from incEdge_of_settingHours hm]
    exact ⟨rfl, addHours_hh_toNat s.regs 1⟩
  · rw [show (after .ckInc s).regs = addMinutes s.regs 1 from incEdge_of_settingMinutes hm]
    exact ⟨rfl, addMinutes_mm_toNat s.regs 1⟩

/-- Settles O32, mode by mode. -/
theorem decrementSetsHoursOrMinutes : Obligations.DecrementSetsHoursOrMinutes := by
  intro s
  refine ⟨after .ckDec s, exec_of_enabled rfl, after_sameBeside (by decide) (by decide) s, rfl, decEdge_of_normal,
    fun hm => ?_, fun hm => ?_⟩
  · rw [show (after .ckDec s).regs = addHours s.regs 23 from decEdge_of_settingHours hm]
    exact ⟨rfl, addHours_hh_toNat s.regs 23⟩
  · rw [show (after .ckDec s).regs = addMinutes s.regs 59 from decEdge_of_settingMinutes hm]
    exact ⟨rfl, addMinutes_mm_toNat s.regs 59⟩

/-- Settles O33: both operations are enabled in every state, and their effects undo each other. -/
theorem decrementUndoesIncrement : Obligations.DecrementUndoesIncrement := fun s hr =>
  ⟨⟨after .ckInc s, after .ckDec (after .ckInc s), exec_of_enabled rfl, exec_of_enabled rfl, decEdge_incEdge hr⟩,
    ⟨after .ckDec s, after .ckInc (after .ckDec s), exec_of_enabled rfl, exec_of_enabled rfl, incEdge_decEdge hr⟩⟩

/-! ### Seconds in Normal (42_clock_fsm.md R141, R142) -/

section
variable {c : Config} {r : Regs}

theorem applySecond_of_normal (h : r.clkmode = .normal) : applySecond c r = advanceTime r := by rw [applySecond, h]

/-- The time of day `n` seconds later, in range, and no other register changed (42_clock_fsm.md R142). -/
structure SecondsLater (n : Nat) (r r' : Regs) : Prop where
  inRange : TimeInRange r'
  frame   : r' = { r with hh := r'.hh, mm := r'.mm, ss := r'.ss }
  seconds : secondsOfDay r' = (secondsOfDay r + n) % 86400

theorem TimeInRange.secondsOfDay_lt (h : TimeInRange r) : secondsOfDay r < 86400 := by
  obtain ⟨hh, hm, hs⟩ := h
  simp only [secondsOfDay]
  omega

theorem SecondsLater.zero (h : TimeInRange r) : SecondsLater 0 r r :=
  ⟨h, rfl, (Nat.mod_eq_of_lt h.secondsOfDay_lt).symm⟩

theorem SecondsLater.advanceTime_succ {n : Nat} {r' : Regs} (h : SecondsLater n r r') :
    SecondsLater (n + 1) r (advanceTime r') := by
  obtain ⟨hseconds, hrange, hframe⟩ := advanceTime_spec h.inRange
  refine ⟨hrange, ?_, ?_⟩
  · rw [hframe, h.frame]
  · rw [hseconds, h.seconds, Nat.mod_add_mod, Nat.add_assoc]

/-- Any number of seconds in Normal (42_clock_fsm.md R142): Normal is kept, so each of them advances the time. -/
theorem secondsLater_iterate (hm : r.clkmode = .normal) (hr : TimeInRange r) (n : Nat) :
    SecondsLater n r ((applySecond c)^[n] r) := by
  induction n with
  | zero => exact .zero hr
  | succ n ih =>
    have hnormal : ((applySecond c)^[n] r).clkmode = .normal := (congrArg Regs.clkmode ih.frame).trans hm
    rw [Function.iterate_succ_apply', applySecond_of_normal hnormal]
    exact ih.advanceTime_succ

/-- The time of day determines the three fields of a time in range, so whole days bring every register back. -/
theorem SecondsLater.eq_of_dvd {n : Nat} {r' : Regs} (h : SecondsLater n r r') (hr : TimeInRange r) (hn : 86400 ∣ n) :
    r' = r := by
  have hsame : secondsOfDay r' = secondsOfDay r := by
    rw [h.seconds, Nat.add_mod, Nat.mod_eq_zero_of_dvd hn, Nat.add_zero, Nat.mod_mod, Nat.mod_eq_of_lt hr.secondsOfDay_lt]
  obtain ⟨hhours, hminutes, hseconds⟩ := hr
  obtain ⟨hhours', hminutes', hseconds'⟩ := h.inRange
  simp only [secondsOfDay] at hsame
  have hh : r'.hh = r.hh := BitVec.eq_of_toNat_eq (by omega)
  have hm : r'.mm = r.mm := BitVec.eq_of_toNat_eq (by omega)
  have hs : r'.ss = r.ss := BitVec.eq_of_toNat_eq (by omega)
  rw [h.frame, hh, hm, hs]

end

/-- Settles O26: one second of the run of seconds. -/
theorem secondAdvancesTheTimeOfDay : Obligations.SecondAdvancesTheTimeOfDay := by
  intro s hm hr
  obtain ⟨hrange, hframe, hseconds⟩ : SecondsLater 1 s.regs (after .ckSec s).regs := secondsLater_iterate hm hr 1
  exact ⟨after .ckSec s, exec_of_enabled rfl, after_sameBeside (by decide) (by decide) s, rfl, hframe, hseconds, hrange⟩

/-- Settles O28: the run iterates the advance, and the time of day determines the three fields. -/
theorem secondsAddUpModuloADay : Obligations.SecondsAddUpModuloADay := by
  intro n s hm hr
  obtain ⟨t, hrun, hregs⟩ := exists_applyTimes_regs (i := .ckSec) (fun _ => rfl) n s
  have hlater : SecondsLater n s.regs t.regs := hregs ▸ secondsLater_iterate hm hr n
  exact ⟨t, hrun, hlater.inRange, hlater.frame, hlater.seconds, hlater.eq_of_dvd hr⟩

/-! ### Seconds in a setting state (42_clock_fsm.md R141, R151) -/

section
variable {c : Config} {r : Regs}

theorem applySecond_of_setting (h : r.clkmode ≠ .normal) : applySecond c r = idleSecond c r := by
  cases hm : r.clkmode with
  | normal => exact absurd hm h
  | settingHours => rw [applySecond, hm]
  | settingMinutes => rw [applySecond, hm]

theorem idleBound_of_strict (h : c.idleRevertStrict = true) : idleBound c = 5 := by rw [idleBound, if_pos h]; rfl
theorem idleBound_of_not_strict (h : c.idleRevertStrict = false) : idleBound c = 4 := by rw [idleBound, h]; rfl

/-- The state reverts one second after its count reached its bound (42_clock_fsm.md R151). -/
theorem revertCount_eq (c : Config) : revertCount c = idleBound c + 1 := by
  unfold revertCount idleBound
  split <;> rfl

/-- `IDLE_W` is at least 3, so no count that may stand is reduced (00_scope.md R8). -/
theorem idleBound_lt (hw : 3 ≤ c.idleW) : idleBound c < 2 ^ c.idleW :=
  calc idleBound c < 2 ^ 3 := by unfold idleBound; split <;> decide
    _ ≤ 2 ^ c.idleW := Nat.pow_le_pow_right (by decide) hw

/-- Below its bound the idle count grows by one. -/
theorem applySecond_counts (hset : r.clkmode ≠ .normal) (hw : 3 ≤ c.idleW) (hlt : r.idle < idleBound c) :
    applySecond c r = { r with idle := r.idle + 1 } := by
  rw [applySecond_of_setting hset]
  rcases idleSecond_cases c r with ⟨hrev, -⟩ | ⟨-, heq⟩
  · have := idleReverts_iff.1 hrev
    omega
  · have := idleBound_lt hw
    rw [heq, Regs.setIdle, Nat.mod_eq_of_lt (by omega)]

/-- From its bound on the idle count makes the state revert. -/
theorem applySecond_reverts (hset : r.clkmode ≠ .normal) (hge : idleBound c ≤ r.idle) :
    applySecond c r = { r with clkmode := .normal, idle := 0 } := by
  rw [applySecond_of_setting hset]
  rcases idleSecond_cases c r with ⟨-, heq⟩ | ⟨hstay, -⟩
  · exact heq
  · exact absurd (idleReverts_iff.2 (Nat.lt_succ_of_le hge)) (by simp [hstay])

/-- A run of seconds from a count of 0 only counts, up to the bound. -/
theorem iterate_applySecond_counts (hset : r.clkmode ≠ .normal) (hidle : r.idle = 0) (hw : 3 ≤ c.idleW) {n : Nat}
    (hn : n ≤ idleBound c) : (applySecond c)^[n] r = { r with idle := n } := by
  induction n with
  | zero => exact congrArg (fun n => { r with idle := n }) hidle
  | succ n ih =>
    rw [Function.iterate_succ_apply', ih (by omega)]
    exact applySecond_counts hset hw hn

/-- The second after the bound reverts (42_clock_fsm.md R151). -/
theorem iterate_applySecond_reverts (hset : r.clkmode ≠ .normal) (hidle : r.idle = 0) (hw : 3 ≤ c.idleW) :
    (applySecond c)^[revertCount c] r = { r with clkmode := .normal } := by
  rw [revertCount_eq, Function.iterate_succ_apply', iterate_applySecond_counts hset hidle hw le_rfl,
    applySecond_reverts (r := { r with idle := idleBound c }) hset le_rfl, ← hidle]

end

/-- Settles O27, by whether the count stands below its bound. -/
theorem secondInASettingStateCountsIdle : Obligations.SecondInASettingStateCountsIdle := by
  intro s hset hw
  refine ⟨after .ckSec s, exec_of_enabled rfl, after_sameBeside (by decide) (by decide) s, rfl, fun hstrict hidle => ?_,
    fun hstrict hidle => ?_, fun hlax hidle => ?_, fun hlax hidle => ?_⟩
  · exact applySecond_counts hset hw (by rw [idleBound_of_strict hstrict]; omega)
  · exact applySecond_reverts hset (by rwa [idleBound_of_strict hstrict])
  · exact applySecond_counts hset hw (by rw [idleBound_of_not_strict hlax]; omega)
  · exact applySecond_reverts hset (by rwa [idleBound_of_not_strict hlax])

/-- Settles O29: the run counts up to the bound, and the second after it reverts. -/
theorem idleTimeoutRevertsToNormal : Obligations.IdleTimeoutRevertsToNormal := by
  intro s hset hidle hw
  refine ⟨fun n hn => ?_, ?_, fun hstrict => ?_, fun hlax => ?_⟩
  · obtain ⟨t, hrun, hregs⟩ := exists_applyTimes_regs (i := .ckSec) (fun _ => rfl) n s
    rw [revertCount_eq] at hn
    exact ⟨t, hrun, hregs.trans (iterate_applySecond_counts hset hidle hw (Nat.le_of_lt_succ hn))⟩
  · obtain ⟨t, hrun, hregs⟩ := exists_applyTimes_regs (i := .ckSec) (fun _ => rfl) (revertCount s.cfg) s
    exact ⟨t, hrun, hregs.trans (iterate_applySecond_reverts hset hidle hw)⟩
  · rw [revertCount_eq, idleBound_of_strict hstrict]
  · rw [revertCount_eq, idleBound_of_not_strict hlax]

/-! ### The check for an elapsed second (42_clock_fsm.md R147) -/

section
variable {c : Config} {r : Regs}

theorem remark_secMark_of_add (h : c.secRemark = .add) :
    (remark c r).secMark.toNat = (r.secMark.toNat + c.secPeriodMs) % 2 ^ 64 := by
  simp [remark, h, BitVec.toNat_add]

theorem remark_secMark_of_now (h : c.secRemark = .now) : (remark c r).secMark = nowMs c r := by
  simp [remark, h]

theorem regsAfter_ckSecchk_of_due (h : secondDue c r = true) :
    regsAfter c r .ckSecchk = { applySecond c r with secMark := (remark c r).secMark } :=
  (if_pos h).trans (applySecond_remark c r)

theorem regsAfter_ckSecchk_of_not_due (h : secondDue c r = false) : regsAfter c r .ckSecchk = r :=
  if_neg (Bool.eq_false_iff.1 h)

end

/-- Settles O34, by whether a period has elapsed: the second is applied as `CK_SEC` applies it, and the mark moves beside
it. -/
theorem secondCheckAppliesOneSecond : Obligations.SecondCheckAppliesOneSecond := by
  intro s
  refine ⟨after .ckSecchk s, after .ckSec s, exec_of_enabled rfl, exec_of_enabled rfl,
    after_sameBeside (by decide) (by decide) s, fun hperiod => ?_, fun hperiod => ?_⟩
  · have hdue : secondDue s.cfg s.regs = true := expired_iff.2 hperiod
    rw [after_regs, regsAfter_ckSecchk_of_due hdue, after_out, outAfter, hdue]
    exact ⟨rfl, rfl, remark_secMark_of_add, remark_secMark_of_now⟩
  · have hdue : secondDue s.cfg s.regs = false := Bool.eq_false_iff.2 (mt expired_iff.1 (Nat.not_le.2 hperiod))
    rw [after_regs, regsAfter_ckSecchk_of_not_due hdue, after_out, outAfter, hdue]
    exact ⟨rfl, rfl⟩

end Sys2Proof.Machine

/-! PROOFS of the statements about the Ranging Engine (43_ranging.md R161 to R171): the converter, the five polls of a
measurement cycle, the samples, and the transition table. -/

namespace Sys2Proof.Machine

/-! ### The converter (43_ranging.md R165) -/

/-- Settles O40: below the timeout the converter is the quotient itself, and quotients are monotone. -/
theorem distanceIsTheWidthDividedRoundedDown : Obligations.DistanceIsTheWidthDividedRoundedDown := by
  intro c w
  have hreduced : w * 10 / 582 = w * 5 / 291 := by omega
  refine ⟨rfl, congrArg (· % 2 ^ c.distW) hreduced, fun hvalid hw => ?_, rfl, rfl, rfl⟩
  have hdist : distOfWidth c w = w * 10 / 582 := distOfWidth_eq hvalid hw
  refine ⟨by omega, by omega, fun v hv => ?_⟩
  have hdist' : distOfWidth c v = v * 10 / 582 := distOfWidth_eq hvalid (hv.trans_lt hw)
  omega

/-! ### The operations of the cycle, each enabled in one state of it (43_ranging.md R161 to R167) -/

section
variable {c : Config} {r : Regs} {lvl : Bool}

/-- An operation that one state of the cycle enables has its effect there, leaves alone what stands beside the registers,
and has no step in the other states (44_arbiter_sequencer.md R192). -/
theorem exec_only_in {i : Instr} {q : RState} {s : State} {P : State → Prop}
    (hen : ∀ r, enabled r i = decide (r.rstate = q)) (hcount : i ≠ .tbCount) (hreset : i ≠ .sysReset)
    (heffect : P (after i s)) :
    (s.regs.rstate = q → ∃ t, exec i s = .next t ∧ SameBeside s t ∧ P t) ∧
      (s.regs.rstate ≠ q → ∀ t, exec i s ≠ .next t) := by
  refine ⟨fun hq => ?_, fun hq t hx => ?_⟩
  · exact ⟨after i s, exec_of_enabled ((hen _).trans (decide_eq_true hq)), after_sameBeside hcount hreset s, heffect⟩
  · have hon := (exec_eq_next.1 hx).1
    exact hq (of_decide_eq_true ((hen _).symm.trans hon))

/-- A bound has not passed while the elapsed time is below it (40_timebase.md R116). -/
theorem expired_eq_false_iff {now mark : Time} {bound : Nat} :
    expired now mark bound = false ↔ (elapsed now mark).toNat < bound := by
  rw [← Bool.not_eq_true, expired_iff, Nat.not_le]

/-- The wait for the fall is in time while the width is below the timeout (43_ranging.md R164). -/
theorem fallTimedOut_eq_false_iff : fallTimedOut c r = false ↔ echoWidth c r < c.echoLowTimeoutUs :=
  expired_eq_false_iff

theorem pollTrigger_of_expired (h : expired (nowUs c r) r.tMark c.trigPulseUs = true) :
    pollTrigger c r = { r with trig := false, tMark := nowUs c r, rstate := .waith } := if_pos h

theorem pollTrigger_of_not_expired (h : expired (nowUs c r) r.tMark c.trigPulseUs = false) : pollTrigger c r = r := by
  simp [pollTrigger, h]

theorem pollRise_of_expired (h : expired (nowUs c r) r.tMark Config.echoHighTimeoutUs = true) :
    pollRise c r lvl = noSample c r .noEcho := if_pos h

theorem pollRise_of_high (h : expired (nowUs c r) r.tMark Config.echoHighTimeoutUs = false) (hlvl : lvl = true) :
    pollRise c r lvl = { r with tRise := nowUs c r, rstate := .waitl } := by simp [pollRise, h, hlvl]

theorem pollRise_of_low (h : expired (nowUs c r) r.tMark Config.echoHighTimeoutUs = false) (hlvl : lvl = false) :
    pollRise c r lvl = r := by simp [pollRise, h, hlvl]

theorem pollFall_of_timedOut (h : fallTimedOut c r = true) : pollFall c r lvl = noSample c r .echoStuck := if_pos h

theorem pollFall_of_low (h : fallTimedOut c r = false) (hlvl : lvl = false) : pollFall c r lvl = takeSample c r := by
  simp [pollFall, h, hlvl]

theorem pollFall_of_high (h : fallTimedOut c r = false) (hlvl : lvl = true) : pollFall c r lvl = r := by
  simp [pollFall, h, hlvl]

theorem pollRecovery_of_expired (h : expired (nowUs c r) r.tMark Config.recoveryUs = true) :
    pollRecovery c r = { r with status := true, rstate := .idle } := if_pos h

theorem pollRecovery_of_not_expired (h : expired (nowUs c r) r.tMark Config.recoveryUs = false) :
    pollRecovery c r = r := by simp [pollRecovery, h]

/-- A sample writes the width's conversion: writing `DIST` reduces what the converter has already reduced. -/
theorem takeSample_eq (c : Config) (r : Regs) :
    takeSample c r = { r with
      dist := distOfWidth c (echoWidth c r), distValid := true, rres := .ok, tMark := nowUs c r, rstate := .recov } := by
  rw [takeSample, Regs.setDist, distOfWidth, Nat.mod_mod]

/-- `RG_WAITL` shows nothing but the sample strobe (43_ranging.md R164). -/
theorem outAfter_rgWaitl (c : Config) (r : Regs) (lvl : Bool) :
    outAfter c r (.rgWaitl lvl) = { quiet with sampleStb := !fallTimedOut c r && !lvl } := rfl

end

/-- Settles O35: one equation, since the start of a cycle tests nothing. -/
theorem triggerStartsACycle : Obligations.TriggerStartsACycle := fun _ =>
  exec_only_in (i := .rgTrig) (fun _ => rfl) (by decide) (by decide) ⟨rfl, rfl⟩

/-- Settles O36, by whether the pulse has lasted its time. -/
theorem triggerPulseEndsAfterItsTime : Obligations.TriggerPulseEndsAfterItsTime := fun _ =>
  exec_only_in (i := .rgTrigw) (fun _ => rfl) (by decide) (by decide)
    ⟨rfl, fun hlong => pollTrigger_of_expired (expired_iff.2 hlong),
      fun hshort => pollTrigger_of_not_expired (expired_eq_false_iff.2 hshort)⟩

/-- Settles O37, by the timeout and then the level. -/
theorem risePollTimesOutRecordsOrWaits : Obligations.RisePollTimesOutRecordsOrWaits := fun _ lvl =>
  exec_only_in (i := .rgWaith lvl) (fun _ => rfl) nofun nofun
    ⟨rfl, fun hlate => pollRise_of_expired (expired_iff.2 hlate),
      fun hearly => pollRise_of_high (expired_eq_false_iff.2 hearly),
      fun hearly => pollRise_of_low (expired_eq_false_iff.2 hearly)⟩

/-- Settles O38, by the timeout and then the level. -/
theorem fallPollTimesOutSamplesOrWaits : Obligations.FallPollTimesOutSamplesOrWaits := by
  refine fun s lvl => exec_only_in (i := .rgWaitl lvl) (fun _ => rfl) nofun nofun
    ⟨fun hlate => ?_, fun hearly hlvl => ?_, fun hearly hlvl => ?_⟩
  · have hout : fallTimedOut s.cfg s.regs = true := fallTimedOut_iff.2 hlate
    exact ⟨pollFall_of_timedOut hout, by rw [after_out, outAfter_rgWaitl, hout]; rfl⟩
  · have hin : fallTimedOut s.cfg s.regs = false := fallTimedOut_eq_false_iff.2 hearly
    exact ⟨(pollFall_of_low hin hlvl).trans (takeSample_eq s.cfg s.regs),
      by rw [after_out, outAfter_rgWaitl, hin, hlvl]; rfl⟩
  · have hin : fallTimedOut s.cfg s.regs = false := fallTimedOut_eq_false_iff.2 hearly
    exact ⟨pollFall_of_high hin hlvl, by rw [after_out, outAfter_rgWaitl, hin, hlvl]; rfl⟩

/-- Settles O39, by whether the recovery delay has passed. -/
theorem recoveryEndsAfterItsDelay : Obligations.RecoveryEndsAfterItsDelay := fun _ =>
  exec_only_in (i := .rgRecov) (fun _ => rfl) (by decide) (by decide)
    ⟨rfl, fun hlong => pollRecovery_of_expired (expired_iff.2 hlong),
      fun hshort => pollRecovery_of_not_expired (expired_eq_false_iff.2 hshort)⟩

/-! ### Samples (43_ranging.md R166, R168) -/

/-- Where no sample is shown the distance and its flag stand, a reset apart (43_ranging.md R166). -/
theorem regsAfter_distance_of_no_sample {c : Config} {r : Regs} {i : Instr} (hout : (outAfter c r i).sampleStb = false)
    (hreset : i ≠ .sysReset) : (regsAfter c r i).dist = r.dist ∧ (regsAfter c r i).distValid = r.distValid := by
  cases i with
  | sysReset => exact absurd rfl hreset
  | rgWaitl lvl =>
    rcases pollFall_cases c r lvl with ⟨-, -, heq⟩ | ⟨-, -, hyields, -⟩ | ⟨-, -, -, heq⟩
    · simp [regsAfter, heq]
    · exact absurd (hyields.symm.trans hout) (by decide)
    · simp [regsAfter, heq]
  | ckSecchk => cases hdue : secondDue c r <;> simp [regsAfter, hdue]
  | _ => simp [regsAfter]

/-- Settles O41: the strobe says which poll wrote the sample, and in a configuration its distance is not reduced. -/
theorem sampleOnlyFromAFallInTime : Obligations.SampleOnlyFromAFallInTime := by
  intro i s t hvalid hx
  obtain ⟨hen, rfl⟩ := exec_eq_next.1 hx
  refine ⟨fun hstb => ?_, fun hi hlt => ?_, regsAfter_distance_of_no_sample⟩
  · obtain ⟨rfl, hin⟩ := (outAfter_sampleStb s.cfg s.regs i).1 hstb
    have hlt := fallTimedOut_eq_false_iff.1 hin
    have hregs : (after (.rgWaitl false) s).regs = takeSample s.cfg s.regs := pollFall_of_low hin rfl
    rw [hregs, takeSample_eq]
    exact ⟨rfl, of_decide_eq_true hen, hlt, distOfWidth_eq hvalid hlt, rfl, rfl⟩
  · exact (outAfter_sampleStb s.cfg s.regs i).2 ⟨hi, fallTimedOut_eq_false_iff.2 hlt⟩

/-! ### The transition table (43_ranging.md R171) -/

/-- Where an operation is enabled, the table lists what it does to `RSTATE`: a poll of the cycle has its two or three
outcomes, and every other operation but a reset leaves the state alone. -/
theorem cycleStep_regsAfter {c : Config} {r : Regs} {i : Instr} (hen : enabled r i = true) (hreset : i ≠ .sysReset) :
    cycleStep i r.rstate (regsAfter c r i).rstate = true := by
  cases i with
  | sysReset => exact absurd rfl hreset
  | rgTrig =>
    have hq : r.rstate = .idle := of_decide_eq_true hen
    rw [hq]
    rfl
  | rgTrigw =>
    have hq : r.rstate = .trig := of_decide_eq_true hen
    rcases pollTrigger_cases c r with ⟨-, heq⟩ | ⟨-, heq⟩ <;> simp [regsAfter, heq, hq, cycleStep]
  | rgWaith lvl =>
    have hq : r.rstate = .waith := of_decide_eq_true hen
    rcases pollRise_cases c r lvl with ⟨-, heq⟩ | ⟨-, -, heq⟩ | ⟨-, -, heq⟩ <;> simp [regsAfter, heq, hq, cycleStep]
  | rgWaitl lvl =>
    have hq : r.rstate = .waitl := of_decide_eq_true hen
    rcases pollFall_cases c r lvl with ⟨-, -, heq⟩ | ⟨-, -, -, heq⟩ | ⟨-, -, -, heq⟩ <;>
      simp [regsAfter, heq, hq, cycleStep]
  | rgRecov =>
    have hq : r.rstate = .recov := of_decide_eq_true hen
    rcases pollRecovery_cases c r with ⟨-, heq⟩ | ⟨-, heq⟩ <;> simp [regsAfter, heq, hq, cycleStep]
  | ckSecchk => cases hdue : secondDue c r <;> simp [regsAfter, hdue, cycleStep]
  | _ => simp [regsAfter, cycleStep]

/-- Settles O42: an operation that answers a next state is enabled. -/
theorem measurementCycleFollowsItsTable : Obligations.MeasurementCycleFollowsItsTable := by
  intro i s t hx hreset
  obtain ⟨hen, rfl⟩ := exec_eq_next.1 hx
  exact cycleStep_regsAfter hen hreset

end Sys2Proof.Machine

/-! PROOFS of the statements about the Mode Arbiter and the sequencer (44_arbiter_sequencer.md): which operations run, the
rows of the sequencer's table, the mode of a frame, and whole frames. -/

namespace Sys2Proof.Machine

/-! ### Which operations run (44_arbiter_sequencer.md R192) -/

/-- The enabling conditions of the operation rules, each for the operations that it guards. -/
theorem enabled_iff {r : Regs} {i : Instr} :
    enabled r i = true ↔
      (i = .tbOvf → r.ovfPend = true ∧ r.ie = true) ∧ (i = .rgTrig → r.rstate = .idle) ∧
        (i = .rgTrigw → r.rstate = .trig) ∧ (∀ l, i = .rgWaith l → r.rstate = .waith) ∧
        (∀ l, i = .rgWaitl l → r.rstate = .waitl) ∧ (i = .rgRecov → r.rstate = .recov) ∧
        (∀ l, i = .arSel l → r.rstate = .idle) := by
  cases i <;> simp [enabled]

theorem exists_exec_eq_next_iff {i : Instr} {s : State} : (∃ t, exec i s = .next t) ↔ enabled s.regs i = true :=
  ⟨fun ⟨_, hx⟩ => (exec_eq_next.1 hx).1, fun hen => ⟨_, exec_of_enabled hen⟩⟩

/-- Settles O9: an operation runs where it is enabled, and its own name is the refusal elsewhere. -/
theorem exactlyTheEnabledOperationsRun : Obligations.ExactlyTheEnabledOperationsRun := by
  intro i s
  refine ⟨exists_exec_eq_next_iff.trans enabled_iff, ?_⟩
  cases hen : enabled s.regs i with
  | true => exact .inl (exists_exec_eq_next_iff.2 hen)
  | false => exact .inr (exec_eq_refused.2 ⟨hen, rfl⟩)

/-! ### The arbiter and the reset (44_arbiter_sequencer.md R180, R191) -/

section
variable {c : Config} {lvl : Bool}

theorem selectMode_of_reverse (h : lvl = c.revActive) (r : Regs) :
    selectMode c r lvl = { r with mainmode := .parking, status := true } := by simp [selectMode, meansReverse, h]

theorem selectMode_of_forward (h : lvl ≠ c.revActive) (r : Regs) :
    selectMode c r lvl = { r with mainmode := .clock } := by simp [selectMode, meansReverse, h]

/-- The level alone decides the mode (44_arbiter_sequencer.md R180). -/
theorem selectMode_mainmode_eq_parking {r : Regs} : (selectMode c r lvl).mainmode = .parking ↔ lvl = c.revActive := by
  by_cases h : lvl = c.revActive
  · exact iff_of_true (by rw [selectMode_of_reverse h]) h
  · exact iff_of_false (by simp [selectMode_of_forward h]) h

/-- The mode before the sample is not read. -/
theorem selectMode_of_any_mainmode (c : Config) (r : Regs) (lvl : Bool) (m : MainMode) :
    selectMode c { r with mainmode := m } lvl = selectMode c r lvl := by
  unfold selectMode
  split <;> rfl

end

/-- Settles O43, by whether the level means reverse gear. -/
theorem arbiterSelectsTheModeOfTheFrame : Obligations.ArbiterSelectsTheModeOfTheFrame := by
  refine fun s lvl => ⟨fun hidle => ?_, fun hbusy t hx => ?_⟩
  · have hen : enabled s.regs (.arSel lvl) = true := decide_eq_true hidle
    refine ⟨after (.arSel lvl) s, exec_of_enabled hen, after_sameBeside (i := .arSel lvl) nofun nofun s, rfl,
      fun h => selectMode_of_reverse h s.regs, fun h => selectMode_of_forward h s.regs, fun m => ?_⟩
    have hsame : after (.arSel lvl) { s with regs := { s.regs with mainmode := m } } = after (.arSel lvl) s :=
      congrArg (fun r => { s with regs := r, out := quiet }) (selectMode_of_any_mainmode s.cfg s.regs lvl m)
    exact exec_eq_next.2 ⟨hen, hsame⟩
  · exact hbusy (of_decide_eq_true (exec_eq_next.1 hx).1)

/-- The time of a block whose time base stands at 0 is 0, under every configuration (70_reset_and_hazards.md R231). -/
theorem nowUs_reset (c : Config) : nowUs c Regs.reset = 0 := by simp [nowUs, Regs.reset]

theorem nowMs_reset (c : Config) : nowMs c Regs.reset = 0 := by simp [nowMs, nowUs_reset]

/-- Settles O44: the registers after a reset are constants, and its line at the control ports goes before an urgent
interrupt. -/
theorem resetLeavesTheStatedValues : Obligations.ResetLeavesTheStatedValues := by
  intro s
  refine ⟨after .sysReset s, exec_of_enabled rfl, ⟨rfl, rfl, rfl, rfl⟩, rfl, rfl, rfl, rfl, ?_,
    fun hv => ⟨hv, fits_reset s.cfg, regInv_reset s.cfg⟩, fun p rest hv hs hrst => ?_⟩
  · simp only [State.ports, after_regs, after_cfg, regsAfter, nowUs_reset, nowMs_reset]
    rfl
  · rw [step_of_script_goesFirst hv hs hrst]
    exact (runLine_pins p { s with script := rest }).1 hrst

/-! ### The dispatch of an edge (44_arbiter_sequencer.md R186) -/

@[simp] theorem dispatchEdge_none (c : Config) (r : Regs) : dispatchEdge c .none r = r := ite_self _

/-- Where edges act, each acts as its clock operation does. -/
theorem dispatchEdge_of_acting {c : Config} {r : Regs} (h : r.mainmode = .clock ∨ c.btnInParking = true) :
    dispatchEdge c .mode r = regsAfter c r .ckMode ∧ dispatchEdge c .inc r = regsAfter c r .ckInc ∧
      dispatchEdge c .dec r = regsAfter c r .ckDec :=
  ⟨if_pos h, if_pos h, if_pos h⟩

/-- In a Parking frame edges are dropped, unless the configuration lets them act. -/
theorem dispatchEdge_of_dropped {c : Config} {r : Regs} (hm : r.mainmode = .parking) (hc : c.btnInParking = false)
    (e : ButtonId) : dispatchEdge c e r = r := if_neg (by simp [hm, hc])

/-! ### The rows of the sequencer's table (44_arbiter_sequencer.md R184) -/

/-- The operation that serves each state of the measurement cycle (43_ranging.md R161 to R167). -/
def cycleOp (echo : Bool) : RState → Instr
  | .idle => .rgTrig
  | .trig => .rgTrigw
  | .waith => .rgWaith echo
  | .waitl => .rgWaitl echo
  | .recov => .rgRecov

section
variable {r : Regs} {inp : Inputs}

theorem mainOp_of_arb (h : r.ph = .arb) : mainOp r inp = .arSel inp.rev := by rw [mainOp, h]
theorem mainOp_of_sec (h : r.ph = .sec) : mainOp r inp = .ckSecchk := by rw [mainOp, h]
theorem mainOp_of_btn (h : r.ph = .btn) : mainOp r inp = .btSample inp.adcRaw.toNat := by rw [mainOp, h]; rfl
theorem mainOp_of_rng (h : r.ph = .rng) : mainOp r inp = cycleOp inp.echo r.rstate := by
  rw [mainOp, h]
  cases r.rstate <;> rfl

theorem cycleOp_enabled (r : Regs) (echo : Bool) : enabled r (cycleOp echo r.rstate) = true := by
  cases hr : r.rstate <;> simp [cycleOp, enabled, hr]

theorem phaseAfter_of_arb (h : r.ph = .arb) (r' : Regs) : phaseAfter r r' = .sec := by rw [phaseAfter, h]
theorem phaseAfter_of_sec (h : r.ph = .sec) (r' : Regs) : phaseAfter r r' = .btn := by rw [phaseAfter, h]
theorem phaseAfter_of_btn (h : r.ph = .btn) (r' : Regs) :
    phaseAfter r r' = if r'.mainmode = .parking then .rng else .arb := by rw [phaseAfter, h]

/-- A cycle that is not in its recovery keeps the frame in `P_RNG`. -/
theorem phaseAfter_of_cycle (h : r.ph = .rng) (hr : r.rstate ≠ .recov) (r' : Regs) : phaseAfter r r' = .rng := by
  rw [phaseAfter, h]
  cases hq : r.rstate with
  | recov => exact absurd hq hr
  | _ => rfl

theorem phaseAfter_of_recov (h : r.ph = .rng) (hr : r.rstate = .recov) (r' : Regs) :
    phaseAfter r r' = if r'.rstate = .idle then .arb else .rng := by rw [phaseAfter, h, hr]

end

section
variable {s t : State} {inp : Inputs} {before : Regs} {p : Phase}

theorem mainStep_of_mainOp {i : Instr} (hop : mainOp s.regs inp = i) (hen : enabled s.regs i = true) :
    mainStep inp s = .next (finishMain s.regs (after i s)) := by
  subst hop
  exact mainStep_eq_next.2 ⟨hen, rfl⟩

/-- Where the frame goes on the sequencer shows nothing of its own. -/
theorem finishMain_of_goes_on (hview : t.out.viewStb = false) (hp : phaseAfter before t.regs = p) (hne : p ≠ .arb) :
    finishMain before t = { t with regs := { dispatchEdge t.cfg t.out.edge t.regs with ph := p } } := by
  have hout : { t.out with viewStb := decide (p = .arb) } = t.out := by rw [decide_eq_false hne, ← hview]
  rw [finishMain, hp, hout]

theorem finishMain_of_frame_end (hp : phaseAfter before t.regs = .arb) :
    finishMain before t =
      { t with regs := { dispatchEdge t.cfg t.out.edge t.regs with ph := .arb }, out := { t.out with viewStb := true } } := by
  rw [finishMain, hp]
  rfl

/-- A step that takes no sample, in the middle of a frame, is its operation and the write of `PH`. -/
theorem mainStep_of_no_edge {i : Instr} (hop : mainOp s.regs inp = i) (hen : enabled s.regs i = true)
    (hedge : (outAfter s.cfg s.regs i).edge = .none) (hp : phaseAfter s.regs (regsAfter s.cfg s.regs i) = p)
    (hne : p ≠ .arb) :
    mainStep inp s = .next { after i s with regs := { regsAfter s.cfg s.regs i with ph := p } } := by
  rw [mainStep_of_mainOp hop hen, finishMain_of_goes_on (outAfter_viewStb ..) hp hne, after_out, hedge, dispatchEdge_none]
  rfl

/-- The row of `P_ARB`, where no cycle is in progress. -/
theorem mainStep_of_arb_row (hp : s.regs.ph = .arb) (hr : s.regs.rstate = .idle) :
    exec (.arSel inp.rev) s = .next (after (.arSel inp.rev) s) ∧
      mainStep inp s = .next { after (.arSel inp.rev) s with
        regs := { selectMode s.cfg s.regs inp.rev with ph := .sec } } := by
  have hen : enabled s.regs (.arSel inp.rev) = true := decide_eq_true hr
  exact ⟨exec_of_enabled hen, mainStep_of_no_edge (mainOp_of_arb hp) hen rfl (phaseAfter_of_arb hp _) (by decide)⟩

/-- A step in `P_RNG` that does not end the frame is the cycle's operation alone. -/
theorem mainStep_of_cycle (hph : s.regs.ph = .rng)
    (hp : phaseAfter s.regs (regsAfter s.cfg s.regs (cycleOp inp.echo s.regs.rstate)) = .rng) :
    mainStep inp s = .next (after (cycleOp inp.echo s.regs.rstate) s) := by
  have hedge : (outAfter s.cfg s.regs (cycleOp inp.echo s.regs.rstate)).edge = .none := by cases s.regs.rstate <;> rfl
  have hreset : cycleOp inp.echo s.regs.rstate ≠ .sysReset := by cases s.regs.rstate <;> simp [cycleOp]
  have hkeep : (regsAfter s.cfg s.regs (cycleOp inp.echo s.regs.rstate)).ph = .rng :=
    (regsAfter_ph s.cfg s.regs hreset).trans hph
  rw [mainStep_of_no_edge (mainOp_of_rng hph) (cycleOp_enabled s.regs inp.echo) hedge hp (by decide), ← hkeep]
  rfl

/-- A row of `P_RNG` before the recovery: the cycle's operation, and the frame goes on. -/
theorem mainStep_of_cycle_row {q : RState} (hph : s.regs.ph = .rng) (hr : s.regs.rstate = q) (hq : q ≠ .recov) :
    exec (cycleOp inp.echo q) s = .next (after (cycleOp inp.echo q) s) ∧
      mainStep inp s = .next (after (cycleOp inp.echo q) s) := by
  subst hr
  exact ⟨exec_of_enabled (cycleOp_enabled s.regs inp.echo), mainStep_of_cycle hph (phaseAfter_of_cycle hph hq _)⟩

end

/-- Settles O45, row by row. -/
theorem sequencerPerformsTheTableRow : Obligations.SequencerPerformsTheTableRow := by
  intro s inp
  refine ⟨fun hp hr => ⟨_, mainStep_of_arb_row hp hr⟩, fun hp => ?_, fun hp hm => ?_, fun hp hm => ?_,
    fun hp hr => ⟨_, mainStep_of_cycle_row hp hr nofun⟩, fun hp hr => ⟨_, mainStep_of_cycle_row hp hr nofun⟩,
    fun hp hr => ⟨_, mainStep_of_cycle_row hp hr nofun⟩, fun hp hr => ⟨_, mainStep_of_cycle_row hp hr nofun⟩,
    fun hp hr => ?_⟩
  · exact ⟨_, exec_of_enabled rfl, mainStep_of_no_edge (mainOp_of_sec hp) rfl rfl (phaseAfter_of_sec hp _) (by decide)⟩
  · have hnext : phaseAfter s.regs (after (.btSample inp.adcRaw.toNat) s).regs = .arb :=
      (phaseAfter_of_btn hp _).trans (if_neg (by simp [regsAfter, hm]))
    refine ⟨after (.btSample inp.adcRaw.toNat) s, exec_of_enabled rfl, ?_⟩
    rw [mainStep_of_mainOp (mainOp_of_btn hp) rfl, finishMain_of_frame_end hnext, after_cfg]
  · have hnext : phaseAfter s.regs (after (.btSample inp.adcRaw.toNat) s).regs = .rng :=
      (phaseAfter_of_btn hp _).trans (if_pos hm)
    refine ⟨after (.btSample inp.adcRaw.toNat) s, exec_of_enabled rfl, ?_⟩
    rw [mainStep_of_mainOp (mainOp_of_btn hp) rfl, finishMain_of_goes_on rfl hnext (by decide), after_cfg]
  · have hop : mainOp s.regs inp = .rgRecov := by rw [mainOp_of_rng hp, hr]; rfl
    have hen : enabled s.regs .rgRecov = true := decide_eq_true hr
    have hedge : (after .rgRecov s).out.edge = .none := rfl
    refine ⟨after .rgRecov s, exec_of_enabled hen, fun hdone => ?_, fun hwait => ?_⟩
    · have hnext := (phaseAfter_of_recov hp hr _).trans (if_pos hdone)
      rw [mainStep_of_mainOp hop hen, finishMain_of_frame_end hnext, hedge, dispatchEdge_none]
    · have hnext := (phaseAfter_of_recov hp hr _).trans (if_neg hwait)
      have hmain := mainStep_of_cycle (inp := inp) hp
      rw [hr] at hmain
      exact hmain hnext

/-- Settles O46: the dispatch by itself, and inside MAIN's step at `P_BTN`. -/
theorem dispatchActsAsTheClockOperation : Obligations.DispatchActsAsTheClockOperation := by
  intro s
  refine ⟨fun e hm hc => dispatchEdge_of_dropped hm hc e, dispatchEdge_none s.cfg s.regs, fun hact => ?_,
    fun hp inp => ?_⟩
  · obtain ⟨hmode, hinc, hdec⟩ := dispatchEdge_of_acting hact
    exact ⟨⟨after .ckMode s, exec_of_enabled rfl, hmode⟩, ⟨after .ckInc s, exec_of_enabled rfl, hinc⟩,
      ⟨after .ckDec s, exec_of_enabled rfl, hdec⟩⟩
  · exact ⟨after (.btSample inp.adcRaw.toNat) s, _, exec_of_enabled rfl, mainStep_of_mainOp (mainOp_of_btn hp) rfl, rfl⟩

/-! ### The mode of a frame (44_arbiter_sequencer.md R188) -/

/-- No operation but `AR_SEL` and a reset writes `MAINMODE`. -/
theorem regsAfter_mainmode {i : Instr} (hsel : ∀ lvl, i ≠ .arSel lvl) (hreset : i ≠ .sysReset) (c : Config) (r : Regs) :
    (regsAfter c r i).mainmode = r.mainmode := by
  cases i with
  | arSel lvl => exact absurd rfl (hsel lvl)
  | sysReset => exact absurd rfl hreset
  | ckSecchk => cases hdue : secondDue c r <;> simp [regsAfter, hdue]
  | _ => simp [regsAfter]

/-- MAIN samples the reverse line in `P_ARB` and nowhere else (44_arbiter_sequencer.md R184). -/
theorem mainOp_ne_arSel {r : Regs} (hp : r.ph ≠ .arb) (inp : Inputs) (lvl : Bool) : mainOp r inp ≠ .arSel lvl := by
  cases h : r.ph with
  | arb => exact absurd h hp
  | sec => simp [mainOp_of_sec h]
  | btn => simp [mainOp_of_btn h]
  | rng => rw [mainOp_of_rng h]; cases r.rstate <;> simp [cycleOp]

theorem mainOp_ne_sysReset (r : Regs) (inp : Inputs) : mainOp r inp ≠ .sysReset := by
  intro h
  have hmain := mainOp_agents r inp
  rw [h] at hmain
  cases hmain

/-- Settles O49: MAIN's step writes `MAINMODE` through its operation, which is `AR_SEL` at `P_ARB` only. -/
theorem frameModeIsTheSampledLevel : Obligations.FrameModeIsTheSampledLevel := by
  refine ⟨fun inp s t hm => ?_, fun i s t hx htrue hfalse hreset => ?_⟩
  · obtain ⟨-, rfl⟩ := mainStep_eq_next.1 hm
    rw [finishMain_mainmode, after_regs]
    refine ⟨fun hp => ?_, fun hp => ?_⟩
    · rw [mainOp_of_arb hp]
      exact selectMode_mainmode_eq_parking
    · exact regsAfter_mainmode (mainOp_ne_arSel hp inp) (mainOp_ne_sysReset s.regs inp) s.cfg s.regs
  · obtain ⟨-, rfl⟩ := exec_eq_next.1 hx
    exact regsAfter_mainmode (Bool.forall_bool.2 ⟨hfalse, htrue⟩) hreset s.cfg s.regs

/-! ### Whole frames (44_arbiter_sequencer.md R184, R189) -/

/-- In `P_SEC` and `P_BTN` MAIN leaves the status line and the trigger alone (44_arbiter_sequencer.md R182). -/
theorem mainOp_status_trig {r : Regs} (hp : r.ph = .sec ∨ r.ph = .btn) (inp : Inputs) (c : Config) :
    (regsAfter c r (mainOp r inp)).status = r.status ∧ (regsAfter c r (mainOp r inp)).trig = r.trig := by
  rcases hp with h | h
  · rw [mainOp_of_sec h]
    cases hdue : secondDue c r <;> simp [regsAfter, hdue]
  · rw [mainOp_of_btn h]
    exact ⟨rfl, rfl⟩

/-- Where a frame that began in `s` stands in `t`, before a cycle: its phase, its mode, the level of `STATUS`, the lines
left, and what no step of it has moved. -/
structure InFrame (s : State) (p : Phase) (m : MainMode) (status : Bool) (ls : List Line) (t : State) : Prop where
  cfg      : t.cfg = s.cfg
  script   : t.script = ls
  ph       : t.regs.ph = p
  mainmode : t.regs.mainmode = m
  status   : t.regs.status = status
  rstate   : t.regs.rstate = .idle
  trig     : t.regs.trig = s.regs.trig
  time     : SameTimeBase s.regs t.regs

theorem SameTimeBase.interruptUrgent_eq {r r' : Regs} (h : SameTimeBase r r') : interruptUrgent r' = interruptUrgent r := by
  simp only [interruptUrgent, enabled, h.ovfPend, h.ie]

theorem SameTimeBase.nowUs_eq {r r' : Regs} (h : SameTimeBase r r') (c : Config) : nowUs c r' = nowUs c r := by
  simp only [nowUs, h.mono, h.tcnt]

section
variable {s t : State} {m : MainMode} {st : Bool} {inp : Inputs} {ls : List Line}

/-- A step at a line of MAIN is MAIN's step, where the frame began with no urgent interrupt: MAIN makes none urgent. -/
theorem InFrame.step_eq {p : Phase} (h : InFrame s p m st (.main inp :: ls) t) (hv : s.cfg.Valid)
    (hu : interruptUrgent s.regs = false) : step t = mainStep inp { t with script := ls } :=
  step_of_script (h.cfg ▸ hv) (h.time.interruptUrgent_eq.trans hu) h.script

/-- The first step of a frame samples the reverse line. -/
theorem exists_step_at_arb (hv : s.cfg.Valid) (hu : interruptUrgent s.regs = false) (hp : s.regs.ph = .arb)
    (hr : s.regs.rstate = .idle) (hs : s.script = .main inp :: ls)
    (hm : (selectMode s.cfg s.regs inp.rev).mainmode = m) (hst : (selectMode s.cfg s.regs inp.rev).status = st) :
    ∃ t, step s = .next t ∧ InFrame s .sec m st ls t := by
  obtain ⟨-, hmain⟩ := mainStep_of_arb_row (s := { s with script := ls }) (inp := inp) hp hr
  exact ⟨_, (step_of_script hv hu hs).trans hmain, rfl, rfl, rfl, hm, hst, (selectMode_rstate ..).trans hr,
    selectMode_trig .., selectMode_tcnt .., selectMode_mono .., selectMode_ovfPend .., selectMode_ie ..⟩

/-- A step in the middle of a frame moves the phase and leaves the rest of what a frame keeps. -/
theorem InFrame.exists_step {p q : Phase} (h : InFrame s p m st (.main inp :: ls) t) (hv : s.cfg.Valid)
    (hu : interruptUrgent s.regs = false) (hp : p = .sec ∨ p = .btn)
    (hq : ∀ r, r.mainmode = m → phaseAfter t.regs r = q) :
    ∃ u, step t = .next u ∧ InFrame s q m st ls u ∧ u.out.viewStb = decide (q = .arb) := by
  have hph : t.regs.ph = .sec ∨ t.regs.ph = .btn := h.ph.symm ▸ hp
  have harb : t.regs.ph ≠ .arb := by rcases hph with hsec | hbtn <;> simp [*]
  have hrng : t.regs.ph ≠ .rng := by rcases hph with hsec | hbtn <;> simp [*]
  obtain ⟨hstatus, htrig⟩ := mainOp_status_trig hph inp t.cfg
  have hmode : (regsAfter t.cfg t.regs (mainOp t.regs inp)).mainmode = m :=
    (regsAfter_mainmode (mainOp_ne_arSel harb inp) (mainOp_ne_sysReset t.regs inp) t.cfg t.regs).trans h.mainmode
  have hen : enabled t.regs (mainOp t.regs inp) = true := mainOp_enabled (s := t) (fun _ => h.rstate) inp
  have hmain : mainStep inp { t with script := ls } =
      .next (finishMain t.regs (after (mainOp t.regs inp) { t with script := ls })) :=
    mainStep_of_mainOp (s := { t with script := ls }) rfl hen
  refine ⟨_, (h.step_eq hv hu).trans hmain, ⟨h.cfg, rfl, hq _ hmode, ?_, ?_, ?_, ?_,
    h.time.trans (mainStep_sameTimeBase (s := { t with script := ls }) hmain)⟩, ?_⟩
  · exact (finishMain_mainmode ..).trans hmode
  · exact (finishMain_status ..).trans (hstatus.trans h.status)
  · exact (finishMain_rstate ..).trans ((mainOp_rstate hrng inp t.cfg).trans h.rstate)
  · exact (finishMain_trig ..).trans (htrig.trans h.trig)
  · exact congrArg (fun p => decide (p = Phase.arb)) (hq _ hmode)

theorem InFrame.exists_step_at_sec (h : InFrame s .sec m st (.main inp :: ls) t) (hv : s.cfg.Valid)
    (hu : interruptUrgent s.regs = false) : ∃ u, step t = .next u ∧ InFrame s .btn m st ls u := by
  obtain ⟨u, hstep, hframe, -⟩ := h.exists_step hv hu (.inl rfl) fun r _ => phaseAfter_of_sec h.ph r
  exact ⟨u, hstep, hframe⟩

/-- The button sample ends a Clock frame and leads a Parking frame to its ranging (R184). -/
theorem InFrame.exists_step_at_btn (h : InFrame s .btn m st (.main inp :: ls) t) (hv : s.cfg.Valid)
    (hu : interruptUrgent s.regs = false) :
    ∃ u, step t = .next u ∧ InFrame s (if m = .parking then .rng else .arb) m st ls u ∧
      u.out.viewStb = decide ((if m = .parking then Phase.rng else .arb) = .arb) :=
  h.exists_step hv hu (.inr rfl) fun r hr => by rw [phaseAfter_of_btn h.ph, hr]

/-- The first step of a Parking frame's ranging starts a cycle. -/
theorem InFrame.step_at_rng (h : InFrame s .rng m st (.main inp :: ls) t) (hv : s.cfg.Valid)
    (hu : interruptUrgent s.regs = false) : step t = .next (after .rgTrig { t with script := ls }) :=
  (h.step_eq hv hu).trans (mainStep_of_cycle_row (s := { t with script := ls }) h.ph h.rstate (by decide)).2

end

/-- In a Clock frame the clock view is rendered (R189). -/
theorem view_of_clock {t : State} (h : t.regs.mainmode = .clock) :
    t.view = .clock t.regs.hh t.regs.mm t.regs.ss t.regs.clkmode.code := by rw [State.view, h]

/-- Settles O47: the sample of the reverse line, the second poll, and the button sample that ends the frame. -/
theorem clockFrameIsThreeSteps : Obligations.ClockFrameIsThreeSteps := by
  intro s a b c rest hv hu hp hr hs hrev
  have hsel := selectMode_of_forward hrev s.regs
  obtain ⟨t₁, h₁, hsec⟩ := exists_step_at_arb (m := .clock) (st := s.regs.status) hv hu hp hr hs (by rw [hsel])
    (by rw [hsel])
  obtain ⟨t₂, h₂, hbtn⟩ := hsec.exists_step_at_sec hv hu
  obtain ⟨t₃, h₃, harb, hview⟩ := hbtn.exists_step_at_btn hv hu
  have hrun : Host.Core.run Sys2Proof.core 3 s = .next t₃ := by
    rw [core_run_succ h₁, core_run_succ h₂, core_run_succ h₃]
    rfl
  exact ⟨t₃, hrun, harb.script, harb.ph, hview, harb.mainmode, view_of_clock harb.mainmode, harb.rstate, harb.status,
    harb.trig⟩

/-- Settles O48: the same three steps in the other mode lead to the ranging, whose first step starts the cycle. -/
theorem parkingFrameStartsACycle : Obligations.ParkingFrameStartsACycle := by
  intro s a b c d rest hv hu hp hr hs hrev
  have hsel := selectMode_of_reverse hrev s.regs
  obtain ⟨t₁, h₁, hsec⟩ := exists_step_at_arb (m := .parking) (st := true) hv hu hp hr hs (by rw [hsel])
    (by rw [hsel])
  obtain ⟨t₂, h₂, hbtn⟩ := hsec.exists_step_at_sec hv hu
  obtain ⟨t₃, h₃, hrng, -⟩ := hbtn.exists_step_at_btn hv hu
  have h₄ := hrng.step_at_rng hv hu
  have hmark : nowUs t₃.cfg t₃.regs = nowUs s.cfg s.regs := by rw [hrng.cfg, hrng.time.nowUs_eq]
  refine ⟨⟨t₁, ?_, hsec.mainmode, hsec.status⟩,
    ⟨after .rgTrig { t₃ with script := rest }, ?_, rfl, hrng.ph, rfl, rfl, rfl, hmark, rfl⟩⟩
  · rw [core_run_succ h₁]
    rfl
  · rw [core_run_succ h₁, core_run_succ h₂, core_run_succ h₃, core_run_succ h₄]
    rfl

end Sys2Proof.Machine

/-! PROOFS of the statements about exceptions and the one interrupt (60_exceptions.md R200, R205 to R208): the block that
never stops, the interrupt that is taken first, and the overflow that is lost. -/

namespace Sys2Proof.Machine

/-! ### No step is missing (60_exceptions.md R200) -/

/-- Settles O55: the urgent handler is enabled, and every choice of the environment has its step where (l) of 10_state.md
R38 holds; both keep the state safe. -/
theorem runningBlockNeverStops : Obligations.RunningBlockNeverStops := by
  intro s h
  obtain ⟨t, hstep, ht, -⟩ := h.exists_step
  exact ⟨t, hstep, ht⟩

/-! ### The urgent interrupt (60_exceptions.md R205, R206) -/

/-- A choice of the environment that may stand before an urgent interrupt is a reset: it never chooses `TB_OVF` itself. -/
theorem runLine_eventLine_of_goesFirst {e : EnvEvent} (h : goesFirst (eventLine e) = true) (s : State) :
    runLine (eventLine e) s = exec .sysReset s := by
  cases e with
  | pins p => exact (runLine_pins p s).1 h
  | count | main inp | readUs | readMs => cases h

section
variable {s : State}

/-- With no script the urgent interrupt is the next step, unless the environment resets. -/
theorem step_of_urgent_empty (hv : s.cfg.Valid) (hu : interruptUrgent s.regs = true) (hs : s.script = []) :
    step s = exec .tbOvf s ∨ step s = exec .sysReset (takeLine s) := by
  have hline : nextLine s = eventLine (envChoice s) := by unfold nextLine; rw [hs]; rfl
  rw [step_of_valid hv, stepLine, hu, hline, hs]
  cases hfirst : goesFirst (eventLine (envChoice s)) with
  | false => exact .inl rfl
  | true => exact .inr (runLine_eventLine_of_goesFirst hfirst (takeLine s))

/-- A script whose next line may not stand before the urgent interrupt has no step (30_encoding.md R91; log entry 7). -/
theorem step_of_urgent_script (hv : s.cfg.Valid) (hu : interruptUrgent s.regs = true) {l : Line} {rest : List Line}
    (hs : s.script = l :: rest) (hl : goesFirst l = false) : step s = .refused (.overflowFirst l) := by
  have hline : nextLine s = l := by unfold nextLine; rw [hs]
  rw [step_of_valid hv, stepLine, hu, hline, hl, hs]
  rfl

end

/-- Settles O8, line by line: each either may stand before the urgent interrupt and is run, or is refused. -/
theorem urgentInterruptIsTakenFirst : Obligations.UrgentInterruptIsTakenFirst := by
  intro s hv hpend hie
  have hu : interruptUrgent s.regs = true := interruptUrgent_iff.2 ⟨hpend, hie⟩
  refine ⟨⟨after .tbOvf s, exec_of_enabled hu, rfl, takeOverflow_mono_toNat s.cfg s.regs, rfl,
    after_sameBeside (by decide) (by decide) s⟩, step_of_urgent_empty hv hu, fun rest w hs hd => ?_,
    fun rest p hs hrst => ?_, fun rest w i hs hd hovf hreset => ?_, fun rest p hs hrst => step_of_urgent_script hv hu hs hrst,
    fun rest inp hs => step_of_urgent_script hv hu hs rfl, fun rest more hs => step_of_urgent_script hv hu hs rfl⟩
  · exact stepRunsTheDecodedOperation s w .tbOvf rest hv hs hd (.inr (.inl rfl))
  · rw [step_of_script_goesFirst hv hs hrst]
    exact (runLine_pins p _).1 hrst
  · have hfirst : ¬goesFirst (.op w) = true := fun h => ((goesFirst_of_decode hd).1 h).elim hovf hreset
    exact step_of_urgent_script hv hu hs (Bool.eq_false_iff.2 hfirst)

/-! ### A lost overflow (60_exceptions.md R208) -/

section
variable {s t : State}

/-- The only operation that loses an overflow is the count of a timer about to wrap with the request set. -/
theorem exec_loses {i : Instr} (hx : exec i s = .next t) (hkept : s.lost = false) (hlost : t.lost = true) :
    i = .tbCount ∧ overflowLost s.cfg s.regs = true := by
  obtain ⟨-, rfl⟩ := exec_eq_next.1 hx
  by_cases hcount : i = .tbCount
  · subst hcount
    rw [after_lost, hkept] at hlost
    exact ⟨rfl, hlost⟩
  by_cases hreset : i = .sysReset
  · subst hreset
    cases hlost
  · rw [(after_sameBeside hcount hreset s).lost, hkept] at hlost
    cases hlost

/-- A line loses an overflow only through an operation that loses one. -/
theorem runLine_loses {l : Line} (hl : runLine l s = .next t) (hkept : s.lost = false) (hlost : t.lost = true) :
    overflowLost s.cfg s.regs = true := by
  rcases runLine_cases hl with ⟨w, i, -, -, hx⟩ | ⟨inp, -, hm⟩ | ⟨p, -, hp⟩ | ⟨n, -, rfl⟩
  · exact (exec_loses hx hkept hlost).2
  · obtain ⟨u, hu, rfl⟩ := andThen_eq_next.1 hm
    exact (exec_loses hu hkept hlost).2
  · rcases hostEdge_eq_next hp with ⟨i, -, hx⟩ | rfl
    · exact (exec_loses hx hkept hlost).2
    · exact absurd hlost (Bool.eq_false_iff.1 hkept)
  · exact (exec_loses (i := .tbCount) (exec_of_enabled rfl) hkept hlost).2

/-- A step that loses an overflow is a line where the interrupt is not urgent: what comes before an urgent interrupt is no
count. -/
theorem step_loses (hs : step s = .next t) (hkept : s.lost = false) (hlost : t.lost = true) :
    overflowLost s.cfg s.regs = true ∧ interruptUrgent s.regs = false := by
  obtain ⟨-, ⟨-, -, -, rfl⟩ | ⟨hfirst, hl⟩⟩ := step_cases hs
  · exact absurd hlost (Bool.eq_false_iff.1 hkept)
  · have hkept' : (takeLine s).lost = false := by rw [takeLine_lost, hkept]
    refine ⟨by simpa using runLine_loses hl hkept' hlost, hfirst.resolve_right fun hgoes => ?_⟩
    obtain ⟨i, hi, hrun⟩ := runLine_of_goesFirst hgoes
    obtain ⟨rfl, -⟩ := exec_loses ((hrun _).symm.trans hl) hkept' hlost
    rcases hi with h | h <;> cases h

end

/-- Settles O21: the count that loses finds the request set, so the interrupt, which is not urgent, is disabled. -/
theorem overflowIsLostOnlyWithInterruptsOff : Obligations.OverflowIsLostOnlyWithInterruptsOff := by
  intro s t hs hkept hlost
  obtain ⟨hover, hu⟩ := step_loses hs hkept hlost
  obtain ⟨hlast, hpend⟩ := overflowLost_iff.1 hover
  have hie : s.regs.ie = false := Bool.eq_false_iff.2 fun h => Bool.eq_false_iff.1 hu (interruptUrgent_iff.2 ⟨hpend, h⟩)
  exact ⟨hie, hpend, hlast⟩

end Sys2Proof.Machine

/-! PROOFS of the statements about reset, boot and halt (70_reset_and_hazards.md R236, R237): the run that has no end. -/

namespace Sys2Proof.Machine

theorem running_resetWith {c : Config} (hv : c.Valid) : Running (State.resetWith c) :=
  ⟨inv_resetWith hv, seqInv_resetWith c, rfl⟩

theorem lawful_resetWith {c : Config} (hv : c.Valid) : Lawful c (State.resetWith c) :=
  ⟨inv_resetWith hv, countLaw_resetWith c, rfl⟩

/-- From a safe state a run of any length reaches a safe state: the block has no terminal state (70_reset_and_hazards.md
R237). -/
theorem Running.exists_core_run {s : State} (h : Running s) (n : Nat) :
    ∃ t, Host.Core.run Sys2Proof.core n s = .next t ∧ Running t := by
  induction n generalizing s with
  | zero => exact ⟨s, rfl, h⟩
  | succ n ih =>
    obtain ⟨u, hstep, hu⟩ := runningBlockNeverStops s h
    obtain ⟨t, hrun, ht⟩ := ih hu
    exact ⟨t, (core_run_succ hstep n).trans hrun, ht⟩

/-- Settles O56: the reset state is safe, so the run exists; the counting law and the parameters hold along it because every
step keeps them. -/
theorem everyRunFromResetStaysSafe : Obligations.EveryRunFromResetStaysSafe := by
  intro c n hv
  obtain ⟨t, hrun, hsafe⟩ := (running_resetWith hv).exists_core_run n
  have hlawful : Lawful c t := core_run_keeps Lawful.step_keeps (lawful_resetWith hv) hrun
  exact ⟨t, hrun, hsafe, hlawful.countLaw, hlawful.cfg⟩

end Sys2Proof.Machine

/-! PROOFS of the statement about the words the spec writes out (95_test_vectors.md section 2.7). -/

namespace Sys2Proof.Machine

/-- Settles O5: each word that is read is the word of its operation, with the operand in range, so the decoder undoes the
encoder on it (R80 to R84). Of the other two, 0x6802 has an operand bit beyond its level and 0x1800 an operation its family
does not assign, and each runs into that check of the decoder (R85). -/
theorem writtenWordsDecode : Obligations.WrittenWordsDecode := by
  have reads (i : Instr) {w : Word} (hw : encode i = w) (hi : i.wellFormed = true) : decode w = .ok i :=
    decode_eq_ok_iff.2 ⟨hw, hi⟩
  have operandBits : decode 0x6802 = .error (.operandBits 2) := rfl
  have unassigned : decode 0x1800 = .error (.unassignedOp 6) := rfl
  exact ⟨reads .tbIrqon rfl rfl, reads (.btSample 395) rfl rfl, reads .ckDec rfl rfl, reads (.rgWaith true) rfl rfl,
    reads (.arSel false) rfl rfl, reads .sysReset rfl rfl, operandBits, unassigned⟩

end Sys2Proof.Machine
